-- ==== Sys2Proof/Word.lean ====
section
/-! DEFINITION. The word types of the PD-812 and its fixed groups: eight channels, four towers. -/

namespace Sys2Proof

/-- Payload words and the words of the readout and control links are 32 bits (00_scope.md, Conventions, Words). -/
abbrev Word := BitVec 32

/-- A converter code, 0 to 4095 (R1). -/
abbrev Code := BitVec 12

/-- A channel, 0 to 7. -/
abbrev Channel := Fin 8

/-- A tower, T0 to T3. -/
abbrev Tower := Fin 4

/-- One value for each of the eight channels. -/
structure Oct (α : Type) where
  c0 : α
  c1 : α
  c2 : α
  c3 : α
  c4 : α
  c5 : α
  c6 : α
  c7 : α
  deriving DecidableEq, Repr

/-- One value for each of the four towers. -/
structure Quad (α : Type) where
  t0 : α
  t1 : α
  t2 : α
  t3 : α
  deriving DecidableEq, Repr

/-- The value of one channel. -/
def Oct.get {α : Type} (o : Oct α) (ch : Channel) : α :=
  match ch.val with
  | 0 => o.c0
  | 1 => o.c1
  | 2 => o.c2
  | 3 => o.c3
  | 4 => o.c4
  | 5 => o.c5
  | 6 => o.c6
  | _ => o.c7

/-- The same value for every channel. -/
def Oct.all {α : Type} (a : α) : Oct α := ⟨a, a, a, a, a, a, a, a⟩

/-- The value `f` gives each channel. -/
def Oct.ofFn {α : Type} (f : Channel → α) : Oct α :=
  ⟨f 0, f 1, f 2, f 3, f 4, f 5, f 6, f 7⟩

/-- The group with channel `ch`'s value replaced. -/
def Oct.set {α : Type} (o : Oct α) (ch : Channel) (a : α) : Oct α :=
  Oct.ofFn fun i => if i = ch then a else o.get i

/-- The group with `f` applied to every value. -/
def Oct.map {α β : Type} (o : Oct α) (f : α → β) : Oct β :=
  Oct.ofFn fun i => f (o.get i)

/-- The eight values, channel 0 first. -/
def Oct.toList {α : Type} (o : Oct α) : List α :=
  [o.c0, o.c1, o.c2, o.c3, o.c4, o.c5, o.c6, o.c7]

/-- The eight channels in ascending order. -/
def channels : List Channel := [0, 1, 2, 3, 4, 5, 6, 7]

/-- The value of one tower. -/
def Quad.get {α : Type} (q : Quad α) (t : Tower) : α :=
  match t.val with
  | 0 => q.t0
  | 1 => q.t1
  | 2 => q.t2
  | _ => q.t3

/-- The same value for every tower. -/
def Quad.all {α : Type} (a : α) : Quad α := ⟨a, a, a, a⟩

/-- The value `f` gives each tower. -/
def Quad.ofFn {α : Type} (f : Tower → α) : Quad α := ⟨f 0, f 1, f 2, f 3⟩

/-- The four values, tower T0 first. -/
def Quad.toList {α : Type} (q : Quad α) : List α := [q.t0, q.t1, q.t2, q.t3]

end Sys2Proof
end

