-- ==== Sys2Proof/Syntax.lean ====
section
/-! DEFINITION. The commands of the PD-812: one constructor per row of spec/opcode_table.json, with its operands. -/

namespace Sys2Proof

/-- The two converters of a channel: high gain and low gain (R1). -/
inductive Gain where
  | high
  | low
  deriving DecidableEq, Repr

/-- The two request links (R136, R169). -/
inductive RequestLink where
  | readout
  | control
  deriving DecidableEq, Repr

/-- What the two converters of one channel deliver at one crossing (R1). -/
structure CodePair where
  hg : Code
  hgFault : Bool
  lg : Code
  lgFault : Bool
  deriving DecidableEq, Repr

/-- The commands, in the order of the table. The operands of a control request are the argument fields of its
request word in their full width (R151), so that an argument out of range is a command too, which is refused (R152).
The operand of `linkError` is the frame that fails (R40); of `readoutUnassigned` and `controlUnassigned` the
request code received. -/
inductive Instr where
  | powerOnReset
  | crossingStart (pairs : Oct CodePair)
  | turnBoundary
  | noneCommand
  | accept
  | turnMarker
  | testFire
  | resync
  | linkError (frame : BitVec 4)
  | autoKill (ch : Channel)
  | pedestalCandidate (ch : Channel) (gain : Gain)
  | injectionRecordAgeOut
  | scanStep
  | captureBegin
  | captureComplete
  | reconstructionBegin
  | reconstructionComplete
  | drainComplete
  | responseEnd (link : RequestLink)
  | fetch
  | release (epoch : BitVec 4) (event : BitVec 24)
  | status
  | readoutUnassigned (code : BitVec 4)
  | writeItem (item : BitVec 11) (index : BitVec 16) (value : Word)
  | readItem (item : BitVec 11) (index : BitVec 3) (wantsPending : Bool)
  | take
  | cancelTake
  | readTakeState
  | start
  | stop
  | restart
  | revive (channel : BitVec 16)
  | readFaults
  | clearCauses (causes : BitVec 16)
  | setEnables (causes : BitVec 16)
  | clearCounts
  | scanStart
  | scanStop
  | freeze
  | unfreeze
  | peekInput (channel : BitVec 16)
  | readCell (age : BitVec 11) (channel : BitVec 16)
  | writeCell (age : BitVec 11) (channel : BitVec 16) (cell : Word)
  | readColumn (age : BitVec 11)
  | readWindowSlot (slot : BitVec 11)
  | readDescriptor (index : BitVec 11)
  | readPayload (word : BitVec 16)
  | readTracker (channel : BitVec 16)
  | diagnosticAccept (age : BitVec 11)
  | controlUnassigned (code : BitVec 5)
  deriving DecidableEq, Repr

end Sys2Proof
end

