-- ==== Sys2Proof/Decode.lean ====
section
/-! DEFINITION. The link formats of chapter 8 read into commands, and commands written back as link words. The opcode
table gives no row a bit pattern, so decodeTableWord answers none (log 8). -/

namespace Sys2Proof

/-- The command a word spells by the table's bits: no row of spec/opcode_table.json gives bits (log 8). -/
def decodeTableWord (_nbits _w : Nat) : Option Instr := none

/-! ### The trigger downlink frame (R40, R145) -/

/-- The four bits of a frame hold an odd number of ones (R40). -/
def frameCheckHolds (frame : BitVec 4) : Bool :=
  (frame.getLsbD 0 != frame.getLsbD 1) != (frame.getLsbD 2 != frame.getLsbD 3)

/-- A frame is good when its check holds and its command field, bits 3 to 1, carries an assigned code (R40, R145). -/
def frameGood (frame : BitVec 4) : Bool :=
  frameCheckHolds frame && decide ((frame.extractLsb' 1 3).toNat ≤ 4)

/-- The command of a downlink frame: a good frame's own command, LINK_ERROR for a frame that fails (R41, R42). -/
def decodeFrame (frame : BitVec 4) : Instr :=
  if frameGood frame then
    match (frame.extractLsb' 1 3).toNat with
    | 0 => .noneCommand
    | 1 => .accept
    | 2 => .turnMarker
    | 3 => .testFire
    | _ => .resync
  else .linkError frame

/-- The downlink frame of a frame command, with its check bit (R145); none for a command that no frame carries. -/
def encodeFrame (c : Instr) : Option (BitVec 4) :=
  match c with
  | .noneCommand => some 0b0001#4
  | .accept => some 0b0010#4
  | .turnMarker => some 0b0100#4
  | .testFire => some 0b0111#4
  | .resync => some 0b1000#4
  | .linkError frame => some frame
  | _ => none

/-! ### The readout request word (R148) -/

/-- The request of a readout request word: the request code in bits 31 to 28 (R137, R148); unused bits are ignored. -/
def decodeReadoutRequest (w : Word) : Instr :=
  match (w.extractLsb' 28 4).toNat with
  | 1 => .fetch
  | 2 => .release (w.extractLsb' 24 4) (w.extractLsb' 0 24)
  | 3 => .status
  | _ => .readoutUnassigned (w.extractLsb' 28 4)

/-- A readout request word, bits its request does not use sent as zero (R144, R148). -/
def readoutWord (code : BitVec 4) (epoch : BitVec 4) (event : BitVec 24) : Word :=
  code ++ (epoch ++ event)

/-- The readout request word of a readout request; none for a command that is none. -/
def encodeReadoutRequest (c : Instr) : Option Word :=
  match c with
  | .fetch => some (readoutWord 1 0 0)
  | .release epoch event => some (readoutWord 2 epoch event)
  | .status => some (readoutWord 3 0 0)
  | .readoutUnassigned code => some (readoutWord code 0 0)
  | _ => none

/-! ### Control request words (R151, R152) -/

/-- Whether a control request code has a value word: WriteItem and WriteCell (R151, R152). -/
def hasValueWord (code : BitVec 5) : Bool := code == 1 || code == 20

/-- The request of a control request word and, where its code has one, its value word: the code in bits 31 to 27,
argument A in bits 26 to 16, argument B in bits 15 to 0 (R151). Bits a request does not use are ignored (R152). -/
def decodeControlRequest (w value : Word) : Instr :=
  let code := w.extractLsb' 27 5
  let a : BitVec 11 := w.extractLsb' 16 11
  let b : BitVec 16 := w.extractLsb' 0 16
  match code.toNat with
  | 1 => .writeItem a b value
  | 2 => .readItem a (b.extractLsb' 0 3) (b.getLsbD 15)
  | 3 => .take
  | 4 => .cancelTake
  | 5 => .readTakeState
  | 6 => .start
  | 7 => .stop
  | 8 => .restart
  | 9 => .revive b
  | 10 => .readFaults
  | 11 => .clearCauses b
  | 12 => .setEnables b
  | 13 => .clearCounts
  | 14 => .scanStart
  | 15 => .scanStop
  | 16 => .freeze
  | 17 => .unfreeze
  | 18 => .peekInput b
  | 19 => .readCell a b
  | 20 => .writeCell a b value
  | 21 => .readColumn a
  | 22 => .readWindowSlot a
  | 23 => .readDescriptor a
  | 24 => .readPayload b
  | 25 => .readTracker b
  | 26 => .diagnosticAccept a
  | _ => .controlUnassigned code

/-- A control request word (R151). -/
def controlWord (code : BitVec 5) (a : BitVec 11) (b : BitVec 16) : Word :=
  code ++ (a ++ b)

/-- Argument B of ReadItem: bit 15 for the pending value, bits 2 to 0 the index (R151). -/
def readItemArgument (index : BitVec 3) (wantsPending : Bool) : BitVec 16 :=
  BitVec.ofBool wantsPending ++ (0#12 ++ index)

/-- The words of a control request, its request word and its value word if it has one, unused bits zero (R144, R151);
none for a command that is no control request. -/
def encodeControlRequest (c : Instr) : Option (Word × Option Word) :=
  match c with
  | .writeItem item index value => some (controlWord 1 item index, some value)
  | .readItem item index wantsPending => some (controlWord 2 item (readItemArgument index wantsPending), none)
  | .take => some (controlWord 3 0 0, none)
  | .cancelTake => some (controlWord 4 0 0, none)
  | .readTakeState => some (controlWord 5 0 0, none)
  | .start => some (controlWord 6 0 0, none)
  | .stop => some (controlWord 7 0 0, none)
  | .restart => some (controlWord 8 0 0, none)
  | .revive channel => some (controlWord 9 0 channel, none)
  | .readFaults => some (controlWord 10 0 0, none)
  | .clearCauses causes => some (controlWord 11 0 causes, none)
  | .setEnables causes => some (controlWord 12 0 causes, none)
  | .clearCounts => some (controlWord 13 0 0, none)
  | .scanStart => some (controlWord 14 0 0, none)
  | .scanStop => some (controlWord 15 0 0, none)
  | .freeze => some (controlWord 16 0 0, none)
  | .unfreeze => some (controlWord 17 0 0, none)
  | .peekInput channel => some (controlWord 18 0 channel, none)
  | .readCell age channel => some (controlWord 19 age channel, none)
  | .writeCell age channel cell => some (controlWord 20 age channel, some cell)
  | .readColumn age => some (controlWord 21 age 0, none)
  | .readWindowSlot slot => some (controlWord 22 slot 0, none)
  | .readDescriptor index => some (controlWord 23 index 0, none)
  | .readPayload word => some (controlWord 24 0 word, none)
  | .readTracker channel => some (controlWord 25 0 channel, none)
  | .diagnosticAccept age => some (controlWord 26 age 0, none)
  | .controlUnassigned code => some (controlWord code 0 0, none)
  | _ => none

end Sys2Proof
end

