-- ==== Sys2Proof/Config.lean ====
section
/-! DEFINITION. The fixed sizes of the PD-812. The spec leaves no value of the part open, so no free value stands here. -/

namespace Sys2Proof.Config

/-- Columns of the Sample Pipeline (R11). -/
abbrev pipelineDepth : Nat := 256

/-- The greatest age at which a column is held (R12) or a window may begin (R82). -/
abbrev greatestAge : Nat := 255

/-- Entries the Accept Queue holds (R71, R76). -/
abbrev queueDepth : Nat := 16

/-- Descriptors the Descriptor Ring holds (R91, R116). -/
abbrev ringDepth : Nat := 64

/-- Words of the Payload Store (07, section 7.1). -/
abbrev payloadWords : Nat := 8192

/-- Records the Injection List holds (R178). -/
abbrev injectionRecords : Nat := 4

/-- Age at which an Injection List record is removed (R178). -/
abbrev injectionLife : Nat := 256

/-- Crossings a Test Fire keeps its crossing and the ones after it out of the pedestal accumulation (R173). -/
abbrev injectionShadow : Nat := 7

/-- Codes of one pedestal candidate (R174). -/
abbrev candidateCodes : Nat := 64

/-- Where the cause counts and the accept counts saturate (R27, R181). -/
abbrev countLimit : Nat := 65535

/-- Where the overrun counts and the consecutive-fault counts saturate (R14, R138, R169). -/
abbrev smallCountLimit : Nat := 255

end Sys2Proof.Config
end

