-- ==== Sys2Proof/Machine/State.lean ====
section
/-! DEFINITION. The state of the PD-812, block by block (00_scope.md, Block list), the reasons a step can stop, and the
state after power-on reset. -/

namespace Sys2Proof.Machine

/-- The part never stops: every command has an effect in every state or the spec says that it changes nothing. The
spec's fault causes are state of the Fault Monitor (R181), not stops. Safe. -/
inductive Fault where
  deriving DecidableEq, Repr

/-- Why a step can be refused. -/
inductive Refusal where
  /-- Raised by an arm of exec whose command has no meaning yet; no arm raises it. Safe. -/
  | notModelled (mnemonic : String)
  deriving DecidableEq, Repr

/-! ### Crossing Timer (02) -/

/-- Whether a turn marker has confirmed the crossing number (02, section 2.1). -/
inductive SyncState where
  | unsynced
  | synced
  deriving DecidableEq, Repr

/-- The current crossing: absolute index (R21), crossing number and turn count (R22). -/
structure Position where
  index : Nat
  number : Nat
  turnCount : BitVec 16
  deriving DecidableEq, Repr

/-- What has been taken of the crossing being formed; the model's own (log 1). -/
structure Forming where
  /-- The crossing number has been formed, by the counter or by a marker (R22, R23). -/
  numberFormed : Bool
  /-- The crossing is a turn boundary whose announcements are still to be made (R22). -/
  boundaryDue : Bool
  /-- A take at this crossing's boundary changed the turn length (R24). -/
  lengthChanged : Bool
  /-- The run state entered Run at this crossing by a marker (R32). -/
  enteredRun : Bool
  /-- The command of this crossing's downlink frame has been taken (R40). -/
  frameTaken : Bool
  /-- A Test Fire took effect at this crossing (R10, R177). -/
  injected : Bool
  /-- The Capture Engine began or completed a capture at this crossing start (R80, R83). -/
  captureActed : Bool
  /-- The Reconstruction Engine, Idle, has looked for an event at this crossing start (R91; log 29). -/
  reconstructionLooked : Bool
  deriving DecidableEq, Repr

/-- A crossing of which nothing but the index has been taken. -/
def Forming.fresh : Forming := ⟨false, false, false, false, false, false, false, false⟩

/-- The Crossing Timer. `position` is absent between a reset and the next crossing start (R21, R26). -/
structure Timer where
  position : Option Position
  sync : SyncState
  forming : Option Forming
  deriving DecidableEq, Repr

/-! ### Run Controller (02) -/

/-- The run states (02, section 2.3). -/
inductive RunState where
  | idle
  | starting
  | run
  | lost
  | resyncing
  | stopping
  deriving DecidableEq, Repr

/-- The Run Controller. -/
structure RunControl where
  state : RunState
  epoch : BitVec 4
  ignored : Nat
  discarded : Nat
  deriving DecidableEq, Repr

/-! ### Trigger Port (03) -/

/-- The throttle state (R48). -/
inductive Throttle where
  | off
  | on
  deriving DecidableEq, Repr

/-- The flag of a tower primitive (R44, R69). -/
inductive PrimitiveFlag where
  | none
  | saturated
  | invalid
  deriving DecidableEq, Repr

/-- A tower primitive (R59). -/
structure Primitive where
  et : BitVec 8
  flag : PrimitiveFlag
  deriving DecidableEq, Repr

/-- The status codes of the uplink frame (R45). -/
inductive StatusCode where
  | idle
  | starting
  | ready
  | throttle
  | stopping
  | lost
  | resyncing
  deriving DecidableEq, Repr

/-- An uplink frame (R43). -/
structure UplinkFrame where
  primitives : Quad Primitive
  status : StatusCode
  attention : Bool
  turnStart : Bool
  deriving DecidableEq, Repr

/-- The Trigger Port: the throttle state and the last uplink frame sent (R43; log 14). -/
structure TriggerPort where
  throttle : Throttle
  uplink : Option UplinkFrame
  deriving DecidableEq, Repr

/-! ### Input Selector, Conversion Stage, Sample Pipeline (01) -/

/-- One channel of the Input Selector and the Conversion Stage. `killDue` is the model's own (log 11). -/
structure InputChannel where
  killed : Bool
  faults : Nat
  hold : Nat
  killDue : Bool
  deriving DecidableEq, Repr

/-- The channels, and the code pairs of the most recent crossing start (R1, R187). -/
structure Inputs where
  channels : Oct InputChannel
  pairs : Option (Oct CodePair)
  deriving DecidableEq, Repr

/-- The state of a sample record (R9). -/
inductive SampleState where
  | good
  | saturated
  | fault
  | off
  | empty
  deriving DecidableEq, Repr

/-- The source of a sample record (R2, R9). -/
inductive Source where
  | normal
  | test
  | quiet
  deriving DecidableEq, Repr

/-- A sample record, one cell of the pipeline (R9). -/
structure Cell where
  state : SampleState
  code : Code
  gain : Gain
  source : Option Source
  deriving DecidableEq, Repr

/-- The record of a cell never written (R9). -/
def Cell.empty : Cell := ⟨.empty, 0, .high, none⟩

/-- The record of a channel that is Off (R3). -/
def Cell.off : Cell := ⟨.off, 0, .high, none⟩

/-- Eight records with the metadata of their crossing (R10). -/
structure Column where
  cells : Oct Cell
  number : BitVec 12
  turnLow : BitVec 12
  gap : Bool
  injection : Bool
  deriving DecidableEq, Repr

/-- An Empty column (R10, R12). -/
def Column.empty : Column := ⟨Oct.all Cell.empty, 0, 0, false, false⟩

/-- A column slot of the pipeline: a column and the index it is stamped with, if any (R10, R11). -/
structure StoredColumn where
  column : Column
  index : Option Nat
  deriving DecidableEq, Repr

/-- What a column slot holds after a reset (R20). -/
def StoredColumn.empty : StoredColumn := ⟨Column.empty, none⟩

/-- The Sample Pipeline: column slots by slot number (an unlisted slot holds `StoredColumn.empty`), write head, frozen
flag (R11, R17, R18). -/
structure Pipeline where
  columns : List (Nat × StoredColumn)
  head : Option Nat
  frozen : Bool
  deriving DecidableEq, Repr

/-! ### Tower Sum Unit (04) -/

/-- A present history entry (R58). -/
structure TowerSum where
  sum : Int
  invalid : Bool
  saturated : Bool
  deriving DecidableEq, Repr

/-- The history of one tower: the entries for n − 2, n − 1 and n (R58). -/
structure TowerHistory where
  older : Option TowerSum
  middle : Option TowerSum
  newest : Option TowerSum
  deriving DecidableEq, Repr

/-- A cleared history (R67, R68). -/
def TowerHistory.absent : TowerHistory := ⟨none, none, none⟩

/-! ### Accept Queue, Capture Engine, Window Store (05) -/

/-- The test match of an accept: the amplitude of the matched record and an offset of −1, 0 or +1 (R75). -/
structure TestMatch where
  amplitude : Nat
  offset : Int
  deriving DecidableEq, Repr

/-- An Accept Queue entry (R71, R79). `accept` is absent for a diagnostic entry made without a write head (R79), `intake`
for one made before the first crossing start (log 12). -/
structure Entry where
  event : BitVec 24
  epoch : BitVec 4
  accept : Option Int
  number : BitVec 12
  turnLow : BitVec 12
  intake : Option Nat
  rawForced : Bool
  diagnostic : Bool
  testMatch : Option TestMatch
  deriving DecidableEq, Repr

/-- The Accept Queue, oldest entry first (R76). -/
structure AcceptQueue where
  entries : List Entry
  eventCounter : BitVec 24
  diagnosticCounter : BitVec 24
  deriving DecidableEq, Repr

/-- The Capture Engine's current slot and position when it is Capturing (05, section 5.1). -/
structure Capture where
  slot : Fin 4
  position : Nat
  deriving DecidableEq, Repr

/-- The states of a Window Store slot that is not Free (R87). -/
inductive WindowState where
  | filling
  | full
  | inUse
  deriving DecidableEq, Repr

/-- A Window Store slot that is not Free (R87). -/
structure Window where
  slot : Fin 4
  state : WindowState
  event : BitVec 24
  epoch : BitVec 4
  accept : Option Int
  number : BitVec 12
  turnLow : BitVec 12
  late : Bool
  rawForced : Bool
  diagnostic : Bool
  testMatch : Option TestMatch
  pre : Nat
  post : Nat
  tapStart : Nat
  columns : List Column
  present : Oct Bool
  deriving DecidableEq, Repr

/-- The window length W (R81). -/
def Window.length (w : Window) : Nat := w.pre + 1 + w.post

/-! ### Reconstruction Engine, Event Buffer (06, 07) -/

/-- The per-channel settings of the snapshot (06, section 6.4). -/
structure ChannelCalibration where
  hgPedestal : Int
  lgPedestal : Int
  gainRatio : Int
  a0 : Int
  a1 : Int
  a2 : Int
  a3 : Int
  a4 : Int
  energyConstant : Int
  b0 : Int
  b1 : Int
  b2 : Int
  b3 : Int
  b4 : Int
  quietThreshold : Int
  negativeThreshold : Int
  deriving DecidableEq, Repr

/-- The snapshot of the settings of section 6.4 (R92). -/
structure Snapshot where
  channel : Oct ChannelCalibration
  timeFloor : Int
  pileUpFloor : Int
  pileUpFraction : Int
  keepAll : Bool
  rawAlways : Bool
  deriving DecidableEq, Repr

/-- Where the current event, begun in crossing b, stands (R95, R96). -/
inductive BuildingPhase where
  /-- The begin crossing b: channel 0 is next. -/
  | begun
  /-- The first of the two crossings of channel j, b + 2j + 1. -/
  | first
  /-- The second, b + 2j + 2, with channel j placed. -/
  | placed
  /-- Crossing b + 16 with the placement of channel 7, which completes the event, still to come. -/
  | due
  deriving DecidableEq, Repr

/-- The current event of the Reconstruction Engine (06, section 6.1). The current descriptor is the newest of the ring
(R90). -/
structure Building where
  slot : Fin 4
  snapshot : Snapshot
  generation : BitVec 8
  channel : Channel
  phase : BuildingPhase
  recordPosition : Nat
  records : Nat
  deriving DecidableEq, Repr

/-- The descriptor states (R117). -/
inductive DescriptorState where
  | building
  | ready
  | sent
  deriving DecidableEq, Repr

/-- A payload reference (R115). -/
structure PayloadReference where
  start : Nat
  length : Nat
  deriving DecidableEq, Repr

/-- A descriptor (R115). The Test flag is the presence of `testMatch`. -/
structure Descriptor where
  event : BitVec 24
  epoch : BitVec 4
  number : BitVec 12
  turnLow : BitVec 12
  generation : BitVec 8
  windowLength : Nat
  state : DescriptorState
  truncated : Bool
  late : Bool
  diagnostic : Bool
  rawForced : Bool
  testMatch : Option TestMatch
  payload : Option PayloadReference
  deriving DecidableEq, Repr

/-- The Event Buffer: ring oldest first, payload words by word number (an unlisted word is 0), fill point, words in use
(07, section 7.1). -/
structure EventBuffer where
  ring : List Descriptor
  words : List (Nat × Word)
  fillPoint : Nat
  wordsInUse : Nat
  deriving DecidableEq, Repr

/-! ### Readout Port and Control Port (08, 09) -/

/-- Where a stream's fragment words come from: the Payload Store, or the header formed at execution (R140). -/
inductive StreamSource where
  | stored (start : Nat)
  | formed (header : List Word)
  deriving DecidableEq, Repr

/-- A fragment stream (R139, R140). `aborted` says that the next word is the Aborted end word (R143). -/
structure Stream where
  epoch : BitVec 4
  event : BitVec 24
  length : Nat
  position : Nat
  source : StreamSource
  ended : Bool
  aborted : Bool
  deriving DecidableEq, Repr

/-- The response being sent: words still to be sent, or a fragment stream (R136, R140). -/
inductive Response where
  | words (left : List Word)
  | stream (s : Stream)
  deriving DecidableEq, Repr

/-- The overrun count, 1 to 255, with the first overrun code (R138). -/
structure Overrun where
  code : Nat
  count : Nat
  deriving DecidableEq, Repr

/-- A request port. It is Idle when `response` is absent, Responding otherwise (R136, R169). `overrun` is absent when the
overrun count is 0. `waits` says that the response begins at the next crossing start, not at the one being formed (log 13);
`out` is the word sent in the current crossing period (log 14). -/
structure Port where
  response : Option Response
  waits : Bool
  overrun : Option Overrun
  out : Option Word
  deriving DecidableEq, Repr

/-- An Idle port (R136). -/
def Port.idle : Port := ⟨none, false, none, none⟩

/-! ### Settings Store (09) -/

/-- The take state (09, section 9.1). -/
inductive TakeState where
  | none
  | scheduled
  deriving DecidableEq, Repr

/-- The Settings Store. A setting set lists the values that differ from the catalogue default, by value address; `touched`
lists the items whose touched flag is set, by item address (log 15). -/
structure Settings where
  pending : List (Nat × Int)
  active : List (Nat × Int)
  touched : List Nat
  take : TakeState
  generation : BitVec 8
  deriving DecidableEq, Repr

/-! ### Pedestal Tracker, Injection Generator (10) -/

/-- One accumulator of the Pedestal Tracker. `due` is the code whose add brings the count to 64 while the event
PEDESTAL_CANDIDATE has not been taken; the model's own (log 11). -/
structure Accumulator where
  sum : Nat
  count : Nat
  held : Option Nat
  due : Option Code
  deriving DecidableEq, Repr

/-- A cleared accumulator without candidate (R176). -/
def Accumulator.clear : Accumulator := ⟨0, 0, none, none⟩

/-- The two accumulators of a channel. -/
structure TrackerChannel where
  hg : Accumulator
  lg : Accumulator
  deriving DecidableEq, Repr

/-- The scan direction (R179). -/
inductive Direction where
  | up
  | down
  deriving DecidableEq, Repr

/-- The scan state with the amplitude held and the fires-at-point count (R179). In Off the current amplitude is the active
Base amplitude and nothing is counted. `stepDue` says that the last fire ended its point and SCAN_STEP has not been taken;
the model's own (log 11). -/
inductive Scan where
  | off
  | running (amplitude fires : Nat) (stepDue : Bool)
  | done (amplitude : Nat)
  deriving DecidableEq, Repr

/-- An Injection List record (R178). -/
structure Fire where
  index : Nat
  amplitude : Nat
  deriving DecidableEq, Repr

/-- The Injection Generator; `charge` is what is injected into each channel at the current crossing (R177; log 14). -/
structure Injection where
  scan : Scan
  direction : Direction
  fires : List Fire
  charge : Oct (Option Nat)
  deriving DecidableEq, Repr

/-! ### Fault Monitor (11) -/

/-- The ten causes (R181). -/
inductive Cause where
  | acceptOverflow
  | linkError
  | turnSlip
  | lateCapture
  | truncated
  | towerInvalid
  | pedestalJump
  | channelKilled
  | converterFault
  | requestOverrun
  deriving DecidableEq, Repr

/-- One count per cause (R181). -/
structure CauseCounts where
  acceptOverflow : Nat
  linkError : Nat
  turnSlip : Nat
  lateCapture : Nat
  truncated : Nat
  towerInvalid : Nat
  pedestalJump : Nat
  channelKilled : Nat
  converterFault : Nat
  requestOverrun : Nat
  deriving DecidableEq, Repr

/-- All ten counts 0 (R184, R185). -/
def CauseCounts.zero : CauseCounts := ⟨0, 0, 0, 0, 0, 0, 0, 0, 0, 0⟩

/-- The Fault Monitor: flags and enables as cause sets, bit 0 AcceptOverflow upward (R151, R181), and the counts. -/
structure Monitor where
  flags : BitVec 10
  enables : BitVec 10
  counts : CauseCounts
  deriving DecidableEq, Repr

/-! ### The part -/

/-- The state of the part, one field per block, and the queue of waiting commands. -/
structure State where
  timer : Timer
  run : RunControl
  trigger : TriggerPort
  inputs : Inputs
  pipeline : Pipeline
  towers : Quad TowerHistory
  queue : AcceptQueue
  capture : Option Capture
  windows : List Window
  recon : Option Building
  buffer : EventBuffer
  readout : Port
  control : Port
  settings : Settings
  tracker : Oct TrackerChannel
  injection : Injection
  monitor : Monitor
  pending : List Instr
  deriving DecidableEq, Repr

/-- The Crossing Timer after either reset (R26). -/
def Timer.reset : Timer := ⟨none, .unsynced, none⟩

/-- The Run Controller after either reset (R35, R36). -/
def RunControl.reset : RunControl := ⟨.idle, 0, 0, 0⟩

/-- A channel of the Input Selector and the Conversion Stage after either reset (R20). -/
def InputChannel.reset : InputChannel := ⟨false, 0, 0, false⟩

/-- The Sample Pipeline after either reset (R20). -/
def Pipeline.reset : Pipeline := ⟨[], none, false⟩

/-- The Accept Queue after either reset (R78). -/
def AcceptQueue.reset : AcceptQueue := ⟨[], 0, 0⟩

/-- The tracker channel after either reset (R176). -/
def TrackerChannel.reset : TrackerChannel := ⟨Accumulator.clear, Accumulator.clear⟩

/-- The Injection Generator after either reset (R178, R179). -/
def Injection.reset : Injection := ⟨.off, .up, [], Oct.all none⟩

/-- The enables after power-on reset: AcceptOverflow, LinkError and TurnSlip set (R182, R185). -/
def Monitor.defaultEnables : BitVec 10 := 0b0000000111#10

/-- The machine right after power-on reset (R36), with no command waiting. -/
def State.reset : State where
  timer := Timer.reset
  run := RunControl.reset
  trigger := ⟨.off, none⟩
  inputs := ⟨Oct.all InputChannel.reset, none⟩
  pipeline := Pipeline.reset
  towers := Quad.all TowerHistory.absent
  queue := AcceptQueue.reset
  capture := none
  windows := []
  recon := none
  buffer := ⟨[], [], 0, 0⟩
  readout := Port.idle
  control := Port.idle
  settings := ⟨[], [], [], .none, 0⟩
  tracker := Oct.all TrackerChannel.reset
  injection := Injection.reset
  monitor := ⟨0, Monitor.defaultEnables, CauseCounts.zero⟩
  pending := []

/-! ### One update per block -/

def State.setTimer (s : State) (v : Timer) : State := { s with timer := v }
def State.setRun (s : State) (v : RunControl) : State := { s with run := v }
def State.setTrigger (s : State) (v : TriggerPort) : State := { s with trigger := v }
def State.setInputs (s : State) (v : Inputs) : State := { s with inputs := v }
def State.setPipeline (s : State) (v : Pipeline) : State := { s with pipeline := v }
def State.setTowers (s : State) (v : Quad TowerHistory) : State := { s with towers := v }
def State.setQueue (s : State) (v : AcceptQueue) : State := { s with queue := v }
def State.setCapture (s : State) (v : Option Capture) : State := { s with capture := v }
def State.setWindows (s : State) (v : List Window) : State := { s with windows := v }
def State.setRecon (s : State) (v : Option Building) : State := { s with recon := v }
def State.setBuffer (s : State) (v : EventBuffer) : State := { s with buffer := v }
def State.setReadout (s : State) (v : Port) : State := { s with readout := v }
def State.setControl (s : State) (v : Port) : State := { s with control := v }
def State.setSettings (s : State) (v : Settings) : State := { s with settings := v }
def State.setTracker (s : State) (v : Oct TrackerChannel) : State := { s with tracker := v }
def State.setInjection (s : State) (v : Injection) : State := { s with injection := v }
def State.setMonitor (s : State) (v : Monitor) : State := { s with monitor := v }
def State.setPending (s : State) (v : List Instr) : State := { s with pending := v }

end Sys2Proof.Machine
end

