-- ==== Sys2Proof/Machine/Ops.lean ====
section
/-! DEFINITION. The shared operations: the canonical stores, saturating counts, fault reports, run-state changes, reads of the
pipeline, reads and writes of the Payload Store, and the two request ports. -/

namespace Sys2Proof.Machine

/-! ### Addressed stores: a list of (address, value) pairs in one canonical form (log 16)

`d` gives what an unlisted address reads as. -/

/-- What address `a` holds. -/
def Memory.read {α : Type} (d : Nat → α) (m : List (Nat × α)) (a : Nat) : α :=
  match m with
  | [] => d a
  | (b, v) :: rest => if a = b then v else Memory.read d rest a

/-- The store without an entry for `a`. -/
def Memory.erase {α : Type} (m : List (Nat × α)) (a : Nat) : List (Nat × α) :=
  match m with
  | [] => []
  | (b, v) :: rest => if a = b then rest else (b, v) :: Memory.erase rest a

/-- The store with the entry (a, v), in rising order of addresses. -/
def Memory.insert {α : Type} (m : List (Nat × α)) (a : Nat) (v : α) : List (Nat × α) :=
  match m with
  | [] => [(a, v)]
  | (b, w) :: rest =>
    if a < b then (a, v) :: (b, w) :: rest
    else if a = b then (a, v) :: rest
    else (b, w) :: Memory.insert rest a v

/-- The store after `v` is written at `a`; writing what an unlisted address reads as removes the entry. -/
def Memory.write {α : Type} [DecidableEq α] (d : Nat → α) (m : List (Nat × α)) (a : Nat) (v : α) : List (Nat × α) :=
  if v = d a then Memory.erase m a else Memory.insert m a v

/-- Every address of the store is above `low` and they rise strictly. -/
def Memory.risingFrom {α : Type} (low : Option Nat) (m : List (Nat × α)) : Bool :=
  match m with
  | [] => true
  | (a, _) :: rest => (match low with | none => true | some l => decide (l < a)) && Memory.risingFrom (some a) rest

/-- The canonical form: addresses strictly rising, no entry equal to what an unlisted address reads as. -/
def Memory.wf {α : Type} [DecidableEq α] (d : Nat → α) (m : List (Nat × α)) : Bool :=
  Memory.risingFrom none m && m.all fun e => decide (e.2 ≠ d e.1)

/-! ### Counts -/

/-- One more, saturating at `limit`. -/
def satInc (limit n : Nat) : Nat := if n < limit then n + 1 else n

/-- `k` more, saturating at `limit`. -/
def satAdd (limit n k : Nat) : Nat := min (n + k) limit

/-! ### Fault reports (R181) -/

/-- The cause's position in a cause set (R151, R181). -/
def Cause.bit (c : Cause) : Nat :=
  match c with
  | .acceptOverflow => 0
  | .linkError => 1
  | .turnSlip => 2
  | .lateCapture => 3
  | .truncated => 4
  | .towerInvalid => 5
  | .pedestalJump => 6
  | .channelKilled => 7
  | .converterFault => 8
  | .requestOverrun => 9

/-- The cause set that names `c` alone. -/
def Cause.mask (c : Cause) : BitVec 10 := BitVec.twoPow 10 c.bit

/-- The ten causes in bit order (R181). -/
def causes : List Cause :=
  [.acceptOverflow, .linkError, .turnSlip, .lateCapture, .truncated, .towerInvalid, .pedestalJump, .channelKilled,
   .converterFault, .requestOverrun]

/-- The count of one cause. -/
def CauseCounts.get (k : CauseCounts) (c : Cause) : Nat :=
  match c with
  | .acceptOverflow => k.acceptOverflow
  | .linkError => k.linkError
  | .turnSlip => k.turnSlip
  | .lateCapture => k.lateCapture
  | .truncated => k.truncated
  | .towerInvalid => k.towerInvalid
  | .pedestalJump => k.pedestalJump
  | .channelKilled => k.channelKilled
  | .converterFault => k.converterFault
  | .requestOverrun => k.requestOverrun

/-- The counts with one more occurrence of `c`, saturating at 65535 (R181). -/
def CauseCounts.bump (k : CauseCounts) (c : Cause) : CauseCounts :=
  match c with
  | .acceptOverflow => { k with acceptOverflow := satInc Config.countLimit k.acceptOverflow }
  | .linkError => { k with linkError := satInc Config.countLimit k.linkError }
  | .turnSlip => { k with turnSlip := satInc Config.countLimit k.turnSlip }
  | .lateCapture => { k with lateCapture := satInc Config.countLimit k.lateCapture }
  | .truncated => { k with truncated := satInc Config.countLimit k.truncated }
  | .towerInvalid => { k with towerInvalid := satInc Config.countLimit k.towerInvalid }
  | .pedestalJump => { k with pedestalJump := satInc Config.countLimit k.pedestalJump }
  | .channelKilled => { k with channelKilled := satInc Config.countLimit k.channelKilled }
  | .converterFault => { k with converterFault := satInc Config.countLimit k.converterFault }
  | .requestOverrun => { k with requestOverrun := satInc Config.countLimit k.requestOverrun }

/-- One occurrence of a cause: its flag is set and its count rises by one, saturating (R181). -/
def Monitor.occurrence (m : Monitor) (c : Cause) : Monitor :=
  { m with flags := m.flags ||| c.mask, counts := m.counts.bump c }

/-- A block reports one occurrence of `c` to the Fault Monitor (R181). -/
def report (c : Cause) (s : State) : State := s.setMonitor (s.monitor.occurrence c)

/-- A block reports one occurrence of `c` when `b` holds. -/
def reportIf (b : Bool) (c : Cause) (s : State) : State := if b then report c s else s

/-! ### Run state -/

/-- The run state becomes `r`; the throttle is cleared whenever that is not Run (R48). -/
def changeRunState (r : RunState) (s : State) : State :=
  let t := s.setRun { s.run with state := r }
  if r = .run then t else t.setTrigger { t.trigger with throttle := .off }

/-- One of the three loss reports reaches the Run Controller: Run becomes Lost, any other run state stays (R30). -/
def loseRun (s : State) : State := if s.run.state = .run then changeRunState .lost s else s

/-- Entering Run: the epoch increments, the event counter becomes 0 and the throttle is Off (R29, R32, R48). The turn count
is the Crossing Timer's, which sets it to 0 at the same crossing. -/
def beginRun (s : State) : State :=
  let t := s.setRun { s.run with state := .run, epoch := s.run.epoch + 1 }
  let u := t.setQueue { t.queue with eventCounter := 0 }
  u.setTrigger { u.trigger with throttle := .off }

/-- The event chain is empty: no queue entry, no capture, no occupied slot, no current event (R34). -/
def chainEmpty (s : State) : Bool :=
  s.queue.entries.isEmpty && s.capture.isNone && s.windows.isEmpty && s.recon.isNone

/-- Drain detection: a Stopping run whose chain is empty becomes Idle (R34). -/
def drain (s : State) : State :=
  if s.run.state = .stopping ∧ chainEmpty s = true then changeRunState .idle s else s

/-! ### The Sample Pipeline's held test (R12) -/

/-- The slot of a crossing: its index modulo 256 (R11); also for a crossing before index 0 (R18). -/
def columnSlot (x : Int) : Nat := (x % (Config.pipelineDepth : Int)).toNat

/-- What a column slot holds. -/
def storedColumn (p : Pipeline) (slot : Nat) : StoredColumn :=
  Memory.read (fun _ => StoredColumn.empty) p.columns slot

/-- The absolute index of the current crossing, if there is one (R21). -/
def currentIndex (s : State) : Option Nat := s.timer.position.map fun p => p.index

/-- The reference index of the held test: the write head while frozen, the current index otherwise (R12). -/
def referenceIndex (s : State) : Option Nat :=
  if s.pipeline.frozen then s.pipeline.head else currentIndex s

/-- The stored column holds crossing `x`: it is stamped with `x`, at an age of 0 to 255 (R12). -/
def isHeld (index reference : Option Nat) (x : Int) : Bool :=
  match index, reference with
  | some i, some r => decide ((i : Int) = x ∧ x ≤ (r : Int) ∧ (r : Int) - x ≤ (Config.greatestAge : Int))
  | _, _ => false

/-- The column of crossing `x`, or an Empty column when it is not held (R12). -/
def readColumn (s : State) (x : Int) : Column :=
  let c := storedColumn s.pipeline (columnSlot x)
  if isHeld c.index (referenceIndex s) x then c.column else Column.empty

/-- The column at age `a`, reckoned from the write head; Empty when nothing has been written since reset (R12, R18). -/
def columnAtAge (s : State) (a : Nat) : Column :=
  match s.pipeline.head with
  | none => Column.empty
  | some h => readColumn s ((h : Int) - (a : Int))

/-! ### The Payload Store (07) -/

/-- The payload word numbered `i` modulo 8192; words never written hold 0 (R134). -/
def payloadWord (b : EventBuffer) (i : Nat) : Word :=
  Memory.read (fun _ => (0 : Word)) b.words (i % Config.payloadWords)

/-- The payload words after `ws` is written from word `i` onward, past 8191 to 0 (R119). -/
def placeWords (m : List (Nat × Word)) (i : Nat) (ws : List Word) : List (Nat × Word) :=
  match ws with
  | [] => m
  | w :: rest =>
    placeWords (Memory.write (fun _ => (0 : Word)) m (i % Config.payloadWords) w) (i + 1) rest

/-- The payload words free: 8192 minus the words in use (07, section 7.1). -/
def wordsFree (b : EventBuffer) : Nat := Config.payloadWords - b.wordsInUse

/-! ### Window Store slots (R87) -/

/-- The slot numbered `n`, when it is not Free. -/
def findWindow (ws : List Window) (n : Fin 4) : Option Window := ws.find? fun w => w.slot == n

/-- The slots with slot `n` replaced by what `f` makes of it. -/
def updateWindow (ws : List Window) (n : Fin 4) (f : Window → Window) : List Window :=
  ws.map fun w => if w.slot = n then f w else w

/-- The slots with slot `n` Free. -/
def freeWindow (ws : List Window) (n : Fin 4) : List Window := ws.filter fun w => !(w.slot == n)

/-- The lowest-numbered Free slot (R80). -/
def lowestFree (ws : List Window) : Option (Fin 4) :=
  [(0 : Fin 4), 1, 2, 3].find? fun n => (findWindow ws n).isNone

/-- The earliest-claimed Full slot, Late or not (R87, R91). -/
def earliestFull (ws : List Window) : Option Window := ws.find? fun w => w.state == .full

/-! ### Request ports (R136, R138, R169) -/

/-- Every word of the response has been sent. -/
def Response.finished (r : Response) : Bool :=
  match r with
  | .words left => left.isEmpty
  | .stream st => st.ended

/-- The port's response has been sent whole, so that it ends at the next crossing start (R136). -/
def Port.endDue (p : Port) : Bool :=
  match p.response with
  | some r => r.finished && !p.waits
  | none => false

/-- A request with code `code` is refused because the port is Responding: the overrun count rises, saturating at 255, and
the first such request leaves its code (R138, R169). -/
def Port.overrunBy (p : Port) (code : Nat) : Port :=
  match p.overrun with
  | none => { p with overrun := some ⟨code, 1⟩ }
  | some o => { p with overrun := some { o with count := satInc Config.smallCountLimit o.count } }

/-- A response begins; it waits for the next crossing start when a crossing is being formed (R136; log 13). -/
def Port.respond (p : Port) (forming : Bool) (r : Response) : Port :=
  { p with response := some r, waits := forming }

/-- The response ends: the port returns to Idle, or begins the Busy response `busy` makes of the overrun count, which then
returns to 0 (R138, R169). -/
def Port.finish (p : Port) (busy : Overrun → Word) : Port :=
  match p.overrun with
  | none => { p with response := none }
  | some o => { p with response := some (.words [busy o]), overrun := none }

/-- Whether a crossing is being formed. -/
def isForming (s : State) : Bool := s.timer.forming.isSome

end Sys2Proof.Machine
end

