-- ==== Sys2Proof/Machine/Formats.lean ====
section
/-! DEFINITION. The bit layouts of what the part sends on its three links (R144 to R154): uplink frame, fragment words, readout
response words, control response words, cell and column words. -/

namespace Sys2Proof.Machine

/-! ### Fields -/

/-- A one-bit flag field: 1 when the flag is set (R144). -/
def flagBit (b : Bool) : BitVec 1 := BitVec.ofBool b

/-- An unsigned number right-aligned in a word (R154). -/
def numberWord (n : Nat) : Word := BitVec.ofNat 32 n

/-- A signed number sign-extended to a word (R154). -/
def signedWord (n : Int) : Word := BitVec.ofInt 32 n

/-- A flag in a word of its own. -/
def flagWord (b : Bool) : Word := numberWord (if b then 1 else 0)

/-- An absent field: a word with every bit set (R154). -/
def absentWord : Word := BitVec.allOnes 32

/-- A field that may be absent. -/
def optionWord {α : Type} (f : α → Word) (o : Option α) : Word :=
  match o with
  | none => absentWord
  | some a => f a

/-- Eight flags, bit j for channel j. -/
def octBits (o : Oct Bool) : BitVec 8 :=
  flagBit o.c7 ++ (flagBit o.c6 ++ (flagBit o.c5 ++ (flagBit o.c4 ++ (flagBit o.c3 ++ (flagBit o.c2 ++
    (flagBit o.c1 ++ flagBit o.c0))))))

/-! ### The uplink frame (R146) -/

/-- The code of a primitive's flag (R146). -/
def PrimitiveFlag.code (f : PrimitiveFlag) : BitVec 2 :=
  match f with
  | .none => 0
  | .saturated => 1
  | .invalid => 2

/-- The code of a status (R146). -/
def StatusCode.code (c : StatusCode) : BitVec 3 :=
  match c with
  | .idle => 0
  | .starting => 1
  | .ready => 2
  | .throttle => 3
  | .stopping => 4
  | .lost => 5
  | .resyncing => 6

/-- The ten bits of a primitive: Et, then the flag code (R146). -/
def Primitive.bits (p : Primitive) : BitVec 10 := p.et ++ p.flag.code

/-- The 45 bits of an uplink frame (R146). -/
def UplinkFrame.bits (f : UplinkFrame) : BitVec 45 :=
  f.primitives.t0.bits ++ (f.primitives.t1.bits ++ (f.primitives.t2.bits ++ (f.primitives.t3.bits ++
    (f.status.code ++ (flagBit f.attention ++ flagBit f.turnStart)))))

/-! ### Fragment words (R125 to R127, R147) -/

/-- Header word 0: format 1, epoch, event number (R125). -/
def header0 (epoch : BitVec 4) (event : BitVec 24) : Word := 1#4 ++ (epoch ++ event)

/-- Header word 1: accept crossing number, turn low, generation (R125). -/
def header1 (number turnLow : BitVec 12) (generation : BitVec 8) : Word := number ++ (turnLow ++ generation)

/-- Header word 2: presence list, record count, W and flags (R126). -/
def header2 (d : Descriptor) (presence : Oct Bool) (records : Nat) (attention : Bool) : Word :=
  octBits presence ++ (BitVec.ofNat 4 records ++ (BitVec.ofNat 5 d.windowLength ++ (flagBit d.truncated ++
    (flagBit d.late ++ (flagBit d.testMatch.isSome ++ (flagBit d.diagnostic ++ (flagBit d.rawForced ++
      (flagBit attention ++ 0#9))))))))

/-- Header word 3: injection amplitude and offset (R127). -/
def header3 (m : TestMatch) : Word := BitVec.ofNat 10 m.amplitude ++ (BitVec.ofInt 2 m.offset ++ 0#20)

/-- The header words of a fragment, with header word 3 when the descriptor carries a test match (R124, R127, R129). -/
def headerWords (d : Descriptor) (presence : Oct Bool) (records : Nat) (attention : Bool) : List Word :=
  header0 d.epoch d.event :: header1 d.number d.turnLow d.generation :: header2 d presence records attention ::
    (match d.testMatch with
     | none => []
     | some m => [header3 m])

/-- The number of header words: three, or four with a test match (R95, R124). -/
def headerLength (m : Option TestMatch) : Nat := if m.isSome then 4 else 3

/-! ### Readout response words (R149) -/

/-- The refusal codes shared by both request links (R149). -/
inductive RefusalCode where
  | notIdle
  | notSynced
  | frozen
  | takePending
  | runLocked
  | invalidSet
  | range
  | notFrozen
  | full
  | notSent
  | mismatch
  deriving DecidableEq, Repr

/-- The number of a refusal code (R149). -/
def RefusalCode.number (r : RefusalCode) : Nat :=
  match r with
  | .notIdle => 1
  | .notSynced => 2
  | .frozen => 3
  | .takePending => 4
  | .runLocked => 5
  | .invalidSet => 6
  | .range => 7
  | .notFrozen => 8
  | .full => 9
  | .notSent => 10
  | .mismatch => 11

/-- The code of a run state in the Status response and the control view (R149, R183). -/
def RunState.code (r : RunState) : Nat :=
  match r with
  | .idle => 0
  | .starting => 1
  | .run => 2
  | .lost => 3
  | .resyncing => 4
  | .stopping => 5

/-- Empty (R149). -/
def emptyWord : Word := 8#4 ++ 0#28

/-- NotReady, with the Building descriptor's epoch and event number (R149). -/
def notReadyWord (epoch : BitVec 4) (event : BitVec 24) : Word := 9#4 ++ (epoch ++ event)

/-- Released, echoing the named epoch and event number (R141, R149). -/
def releasedWord (epoch : BitVec 4) (event : BitVec 24) : Word := 10#4 ++ (epoch ++ event)

/-- Refused, with the refusal code and the request code received (R149). -/
def readoutRefusedWord (r : RefusalCode) (code : Nat) : Word :=
  11#4 ++ (BitVec.ofNat 4 r.number ++ (BitVec.ofNat 4 code ++ 0#20))

/-- Busy, with the first overrun code and the overrun count (R138, R149). -/
def readoutBusyWord (o : Overrun) : Word :=
  12#4 ++ (BitVec.ofNat 4 o.code ++ (BitVec.ofNat 8 o.count ++ 0#16))

/-- End, with the Aborted mark, the fragment words sent, the epoch and the low 16 bits of the event number (R140, R149). -/
def endWord (st : Stream) : Word :=
  14#4 ++ (flagBit st.aborted ++ (BitVec.ofNat 7 st.position ++ (st.epoch ++ st.event.setWidth 16)))

/-! ### Control response words (R151, R153) -/

/-- The outcome of a control request with what its header and data words carry (R153, R171). -/
inductive Reply where
  | done (data : List Word)
  | clamped (stored : Word)
  | scheduled
  | refused (code : RefusalCode)
  | invalidSet (condition : Nat)
  deriving DecidableEq, Repr

/-- A control response header word (R153). -/
def controlHeader (code outcome refusal condition data overruns : Nat) : Word :=
  BitVec.ofNat 5 code ++ (BitVec.ofNat 3 outcome ++ (BitVec.ofNat 5 refusal ++ (BitVec.ofNat 3 condition ++
    (BitVec.ofNat 8 data ++ BitVec.ofNat 8 overruns))))

/-- The words of a control response: header, then data (R153, R154). -/
def Reply.words (r : Reply) (code : Nat) : List Word :=
  match r with
  | .done data => controlHeader code 0 0 0 data.length 0 :: data
  | .clamped stored => [controlHeader code 1 0 0 1 0, stored]
  | .scheduled => [controlHeader code 2 0 0 0 0]
  | .refused c => [controlHeader code 3 c.number 0 0 0]
  | .invalidSet k => [controlHeader code 3 RefusalCode.invalidSet.number k 0 0]

/-- The Busy response of the control link: one header word (R154, R169). -/
def controlBusyWord (o : Overrun) : Word := controlHeader o.code 4 0 0 0 o.count

/-- The code of a record's state in a cell word (R151). -/
def SampleState.code (x : SampleState) : BitVec 3 :=
  match x with
  | .good => 0
  | .saturated => 1
  | .fault => 2
  | .off => 3
  | .empty => 4

/-- The code of a record's source in a cell word (R151). -/
def sourceCode (x : Option Source) : BitVec 2 :=
  match x with
  | some .normal => 0
  | some .test => 1
  | some .quiet => 2
  | none => 3

/-- The gain bit: 1 for Low (R147, R151). -/
def Gain.bit (g : Gain) : BitVec 1 :=
  match g with
  | .high => 0
  | .low => 1

/-- A cell word (R151). -/
def cellWord (c : Cell) : Word :=
  c.code ++ (Gain.bit c.gain ++ (c.state.code ++ (sourceCode c.source ++ 0#14)))

/-- A column metadata word (R151). -/
def metadataWord (c : Column) : Word :=
  c.number ++ (c.turnLow ++ (flagBit c.gap ++ (flagBit c.injection ++ 0#6)))

/-- A column as its metadata word and its eight cell words in channel order (R187). -/
def columnWords (c : Column) : List Word := metadataWord c :: c.cells.toList.map cellWord

/-- The record a cell word names, or none when the word is refused with RANGE (R9, R152). -/
def decodeCellWord (w : Word) : Option Cell :=
  let code : Code := w.extractLsb' 20 12
  let gain : Gain := if w.getLsbD 19 then .low else .high
  let source : Option Source :=
    match (w.extractLsb' 14 2).toNat with
    | 0 => some .normal
    | 1 => some .test
    | 2 => some .quiet
    | _ => none
  match (w.extractLsb' 16 3).toNat with
  | 0 => if source.isSome then some ⟨.good, code, gain, source⟩ else none
  | 1 => if source.isSome ∧ code = 4095#12 ∧ gain = .low then some ⟨.saturated, code, gain, source⟩ else none
  | 2 => if source.isSome ∧ gain = .low then some ⟨.fault, code, gain, source⟩ else none
  | 3 => some Cell.off
  | 4 => some Cell.empty
  | _ => none

end Sys2Proof.Machine
end

