-- ==== Sys2Proof/Machine/Operands.lean ====
section
/-! DEFINITION. The operands of the commands: the item catalogue (R156, R157) with the values of both setting sets, and the
argument fields of the control requests against their ranges (R152). -/

namespace Sys2Proof.Machine

/-! ### The item catalogue -/

/-- The scope of an item (09, section 9.2). The Window group is a global item with four fields. -/
inductive Scope where
  | perChannel
  | perTower
  | global
  | windowGroup
  deriving DecidableEq, Repr

/-- One row of the catalogue. -/
structure ItemRow where
  number : Nat
  scope : Scope
  enumerated : Bool
  low : Int
  high : Int
  default : Int
  runLocked : Bool
  deriving DecidableEq, Repr

/-- The per-channel and per-tower items (R156). The default of Tower assignment is the channel's number over 2, which
`catalogueDefault` gives. -/
def channelCatalogue : List ItemRow :=
  [⟨1, .perChannel, true, 0, 3, 1, false⟩,
   ⟨2, .perChannel, true, 0, 4, 0, true⟩,
   ⟨3, .perChannel, false, 0, 16383, 800, false⟩,
   ⟨4, .perChannel, false, 0, 16383, 800, false⟩,
   ⟨5, .perChannel, false, 256, 8191, 4096, false⟩,
   ⟨6, .perChannel, false, 0, 4095, 3840, false⟩,
   ⟨7, .perChannel, false, 0, 7, 2, false⟩,
   ⟨8, .perChannel, false, -32768, 32767, 0, false⟩,
   ⟨9, .perChannel, false, -32768, 32767, 0, false⟩,
   ⟨10, .perChannel, false, -32768, 32767, 16384, false⟩,
   ⟨11, .perChannel, false, -32768, 32767, 0, false⟩,
   ⟨12, .perChannel, false, -32768, 32767, 0, false⟩,
   ⟨13, .perChannel, false, -32768, 32767, 0, false⟩,
   ⟨14, .perChannel, false, -32768, 32767, 0, false⟩,
   ⟨15, .perChannel, false, -32768, 32767, 0, false⟩,
   ⟨16, .perChannel, false, -32768, 32767, 0, false⟩,
   ⟨17, .perChannel, false, -32768, 32767, 0, false⟩,
   ⟨18, .perChannel, false, 0, 65535, 4096, false⟩,
   ⟨19, .perChannel, false, 0, 65535, 16384, false⟩,
   ⟨20, .perChannel, false, 0, 32767, 2, false⟩,
   ⟨21, .perChannel, false, 0, 32768, 8, false⟩,
   ⟨22, .perChannel, true, 0, 1, 0, false⟩,
   ⟨23, .perChannel, false, 0, 255, 0, false⟩,
   ⟨32, .perTower, true, 0, 1, 0, false⟩,
   ⟨33, .perTower, false, 0, 7, 2, false⟩,
   ⟨34, .perTower, true, 0, 2, 0, false⟩]

/-- The global items (R157). Item 51 is the Window group, whose fields stand in `windowFields`. -/
def globalCatalogue : List ItemRow :=
  [⟨48, .global, false, 256, 4096, 3000, true⟩,
   ⟨49, .global, false, 0, 4095, 2900, false⟩,
   ⟨50, .global, false, 0, 4095, 2999, false⟩,
   ⟨51, .windowGroup, false, 0, 0, 0, true⟩,
   ⟨52, .global, false, 0, 255, 64, false⟩,
   ⟨53, .global, false, 0, 524287, 2000, false⟩,
   ⟨54, .global, false, 0, 524287, 0, false⟩,
   ⟨55, .global, false, 0, 65535, 0, false⟩,
   ⟨56, .global, true, 0, 1, 0, false⟩,
   ⟨57, .global, true, 0, 1, 0, false⟩,
   ⟨58, .global, false, 1, 16, 12, false⟩,
   ⟨59, .global, false, 0, 15, 8, false⟩,
   ⟨60, .global, false, 1, 64, 56, false⟩,
   ⟨61, .global, false, 0, 63, 48, false⟩,
   ⟨62, .global, false, 0, 8191, 1024, false⟩,
   ⟨63, .global, false, 1, 8192, 2048, false⟩,
   ⟨64, .global, false, 0, 16383, 16, false⟩,
   ⟨65, .global, false, 0, 63, 20, false⟩,
   ⟨66, .global, false, 0, 1023, 100, false⟩,
   ⟨67, .global, false, 0, 1023, 0, false⟩,
   ⟨68, .global, false, 0, 1023, 1023, false⟩,
   ⟨69, .global, false, 1, 255, 16, false⟩,
   ⟨70, .global, true, 0, 1, 0, false⟩,
   ⟨71, .global, false, 1, 65535, 100, false⟩,
   ⟨72, .global, true, 0, 2, 0, false⟩]

/-- The item catalogue (R156, R157). -/
def catalogue : List ItemRow := channelCatalogue ++ globalCatalogue

/-- The row of an item number, if it names an item. -/
def itemRow (number : Nat) : Option ItemRow := catalogue.find? fun r => r.number == number

/-- The address of a value: eight places for each item number. The fields Latency, pre, post and Tap start of the Window
group have the places 0 to 3 of item 51 (log 15). -/
def valueAddress (number index : Nat) : Nat := number * 8 + index

/-- The address of the Window group and of its first field. -/
def windowAddress : Nat := valueAddress 51 0

/-- Low end, high end and default of a Window group field: Latency, pre, post, Tap start (R157, R159). -/
def windowField (field : Nat) : Int × Int × Int :=
  match field with
  | 0 => (16, 240, 128)
  | 1 => (0, 8, 2)
  | 2 => (0, 8, 4)
  | _ => (0, 11, 0)

/-- The catalogue default of the value at an address (R156, R157). -/
def catalogueDefault (address : Nat) : Int :=
  let number := address / 8
  let index := address % 8
  if number = 51 then (windowField index).2.2
  else if number = 2 then ((index / 2 : Nat) : Int)
  else match itemRow number with
    | some r => r.default
    | none => 0

/-- A value of a setting set. -/
def itemValue (m : List (Nat × Int)) (address : Nat) : Int := Memory.read catalogueDefault m address

/-- A setting set with one value replaced. -/
def setItemValue (m : List (Nat × Int)) (address : Nat) (v : Int) : List (Nat × Int) :=
  Memory.write catalogueDefault m address v

/-- The addresses of an item's values: four for the Window group, one for every other item. -/
def itemAddresses (item : Nat) : List Nat :=
  if item = windowAddress then [item, item + 1, item + 2, item + 3] else [item]

/-- An item's touched flag set; the list stays in rising order without repeats. -/
def touch (item : Nat) (touched : List Nat) : List Nat :=
  match touched with
  | [] => [item]
  | t :: rest => if item < t then item :: t :: rest else if item = t then t :: rest else t :: touch item rest

/-- The items a take may change only in Idle: Tower assignment, Turn length, the Window group (R162). -/
def isRunLocked (item : Nat) : Bool :=
  match itemRow (item / 8) with
  | some r => r.runLocked
  | none => false

/-! ### Active values -/

/-- An active value: the setting a behavioural statement names (00_scope.md, Conventions, Settings). -/
def active (s : State) (number index : Nat) : Int := itemValue s.settings.active (valueAddress number index)

/-- An active value whose range starts at 0 or above. -/
def activeNat (s : State) (number index : Nat) : Nat := (active s number index).toNat

/-- An active Off or On value. -/
def activeOn (s : State) (number index : Nat) : Bool := active s number index == 1

/-- The channel modes (R156, item 1). -/
inductive ChannelMode where
  | off
  | normal
  | test
  | quiet
  deriving DecidableEq, Repr

/-- The channel mode of a code. -/
def ChannelMode.ofCode (v : Int) : ChannelMode :=
  if v = 0 then .off else if v = 2 then .test else if v = 3 then .quiet else .normal

def channelMode (s : State) (ch : Channel) : ChannelMode := ChannelMode.ofCode (active s 1 ch.val)
def towerAssignment (s : State) (ch : Channel) : Int := active s 2 ch.val
def hgPedestal (s : State) (ch : Channel) : Int := active s 3 ch.val
def lgPedestal (s : State) (ch : Channel) : Int := active s 4 ch.val
def gainRatio (s : State) (ch : Channel) : Int := active s 5 ch.val
def switchThreshold (s : State) (ch : Channel) : Nat := activeNat s 6 ch.val
def gainHold (s : State) (ch : Channel) : Nat := activeNat s 7 ch.val
def triggerWeight (s : State) (ch : Channel) : Int := active s 19 ch.val
def trackingOn (s : State) (ch : Channel) : Bool := activeOn s 22 ch.val
def killCount (s : State) (ch : Channel) : Nat := activeNat s 23 ch.val
def towerPairMode (s : State) (t : Tower) : Bool := activeOn s 32 t.val
def towerShift (s : State) (t : Tower) : Nat := activeNat s 33 t.val
def invalidPolicy (s : State) (t : Tower) : Int := active s 34 t.val
def turnLength (s : State) : Nat := activeNat s 48 0
def gapStart (s : State) : Nat := activeNat s 49 0
def gapEnd (s : State) : Nat := activeNat s 50 0
def latency (s : State) : Nat := activeNat s 51 0
def windowPre (s : State) : Nat := activeNat s 51 1
def windowPost (s : State) : Nat := activeNat s 51 2
def windowTapStart (s : State) : Nat := activeNat s 51 3
def rawPrescale (s : State) : Nat := activeNat s 55 0
def queueOn (s : State) : Nat := activeNat s 58 0
def queueOff (s : State) : Nat := activeNat s 59 0
def descriptorOn (s : State) : Nat := activeNat s 60 0
def descriptorOff (s : State) : Nat := activeNat s 61 0
def payloadOn (s : State) : Nat := activeNat s 62 0
def payloadOff (s : State) : Nat := activeNat s 63 0
def trackLimit (s : State) : Int := active s 64 0
def injectionDelay (s : State) : Int := active s 65 0
def baseAmplitude (s : State) : Nat := activeNat s 66 0
def scanLow (s : State) : Int := active s 67 0
def scanHigh (s : State) : Int := active s 68 0
def scanStepSize (s : State) : Int := active s 69 0
def scanDirectionItem (s : State) : Direction := if active s 70 0 = 1 then .down else .up
def firesPerPoint (s : State) : Nat := activeNat s 71 0
def endPolicy (s : State) : Int := active s 72 0

/-! ### Argument fields against their ranges (R152) -/

/-- A channel argument, 0 to 7. -/
def channelArgument (b : BitVec 16) : Option Channel :=
  if h : b.toNat < 8 then some ⟨b.toNat, h⟩ else none

/-- An age argument, 0 to 255 (R187). -/
def ageArgument (a : BitVec 11) : Option Nat := if a.toNat ≤ Config.greatestAge then some a.toNat else none

/-- A Window Store slot argument, 0 to 3 (R189). -/
def slotArgument (a : BitVec 11) : Option (Fin 4) :=
  if h : a.toNat < 4 then some ⟨a.toNat, h⟩ else none

/-- A descriptor index argument, 0 to 63 (R189). -/
def descriptorArgument (a : BitVec 11) : Option Nat := if a.toNat < Config.ringDepth then some a.toNat else none

/-- A payload word argument, 0 to 8191 (R189). -/
def payloadArgument (b : BitVec 16) : Option Nat := if b.toNat < Config.payloadWords then some b.toNat else none

/-- The item address an item number and an index name, or none when either is out of range (R158, R160). A global item
ignores the index. -/
def itemArgument (row : ItemRow) (index : Nat) : Option Nat :=
  match row.scope with
  | .perChannel => if index ≤ 7 then some (valueAddress row.number index) else none
  | .perTower => if index ≤ 3 then some (valueAddress row.number index) else none
  | .global => some (valueAddress row.number 0)
  | .windowGroup => some (valueAddress row.number 0)

/-- The four fields of a Window group value word: Latency, pre, post, Tap start (R151). -/
def windowWordFields (w : Word) : List Nat :=
  [(w.extractLsb' 24 8).toNat, (w.extractLsb' 20 4).toNat, (w.extractLsb' 16 4).toNat, (w.extractLsb' 12 4).toNat]

/-- The Window group of a setting set in the layout of its value word (R151, R160). -/
def windowWord (m : List (Nat × Int)) : Word :=
  BitVec.ofInt 8 (itemValue m windowAddress) ++ (BitVec.ofInt 4 (itemValue m (windowAddress + 1)) ++
    (BitVec.ofInt 4 (itemValue m (windowAddress + 2)) ++ (BitVec.ofInt 4 (itemValue m (windowAddress + 3)) ++ 0#12)))

/-- The nearer end of a range for a value outside it (00_scope.md, Conventions, Clamps). -/
def clampTo (low high v : Int) : Int := if v < low then low else if high < v then high else v

end Sys2Proof.Machine
end

