-- ==== Sys2Proof/Machine/Flags.lean ====
section
/-! DEFINITION. The indications the part forms from its state: attention, the throttle, the status code, gap membership, the
sources, present flags and the amplitude in force. -/

namespace Sys2Proof.Machine

/-- Attention: some cause has both its flag and its enable set (R182). -/
def Monitor.attention (m : Monitor) : Bool := decide (m.flags &&& m.enables ≠ 0)

/-- The attention indication of the part as it stands (R182). -/
def attention (s : State) : Bool := s.monitor.attention

/-- An on condition of the throttle holds (R50). -/
def throttleOnCondition (s : State) : Bool :=
  decide (queueOn s ≤ s.queue.entries.length) || decide (descriptorOn s ≤ s.buffer.ring.length)
    || decide (wordsFree s.buffer < payloadOn s)

/-- All off conditions of the throttle hold (R51). -/
def throttleOffCondition (s : State) : Bool :=
  decide (s.queue.entries.length ≤ queueOff s) && decide (s.buffer.ring.length ≤ descriptorOff s)
    && decide (payloadOff s ≤ wordsFree s.buffer)

/-- The throttle state after an evaluation (R50, R51). -/
def throttleAfter (s : State) : Throttle :=
  match s.trigger.throttle with
  | .off => if throttleOnCondition s then .on else .off
  | .on => if throttleOffCondition s then .off else .on

/-- The throttle evaluation of an uplink frame, made in Run alone (R48). -/
def evaluateThrottle (s : State) : State :=
  if s.run.state = .run then s.setTrigger { s.trigger with throttle := throttleAfter s } else s

/-- The status code of an uplink frame (R45). -/
def statusCode (s : State) : StatusCode :=
  match s.run.state with
  | .lost => .lost
  | .resyncing => .resyncing
  | .run => if s.trigger.throttle = .on then .throttle else .ready
  | .starting => .starting
  | .stopping => .stopping
  | .idle => .idle

/-- The crossing number of the current crossing; 0 before the first one. -/
def crossingNumber (s : State) : Nat :=
  match s.timer.position with
  | some p => p.number
  | none => 0

/-- The current crossing is a gap crossing (R25). -/
def isGapCrossing (s : State) : Bool :=
  decide (gapStart s ≤ crossingNumber s) && decide (crossingNumber s ≤ gapEnd s)

/-- The effective source of a channel in an unfrozen crossing: none for Off (R2). -/
def effectiveSource (s : State) (ch : Channel) : Option Source :=
  if (s.inputs.channels.get ch).killed then none
  else match channelMode s ch with
    | .off => none
    | .normal => some .normal
    | .test => some .test
    | .quiet => some .quiet

/-- The present flags a column gives: a channel whose record is not Off is present (R84). -/
def presentFlags (c : Column) : Oct Bool := c.cells.map fun x => decide (x.state ≠ .off)

/-- The current amplitude: held in Running and Done, the active Base amplitude in Off (R179). -/
def currentAmplitude (s : State) : Nat :=
  match s.injection.scan with
  | .off => baseAmplitude s
  | .running a _ _ => a
  | .done a => a

/-- The code of the scan state in the control view (R183). -/
def Scan.code (x : Scan) : Nat :=
  match x with
  | .off => 0
  | .running _ _ _ => 1
  | .done _ => 2

end Sys2Proof.Machine
end

