-- ==== Sys2Proof/Machine/Inputs.lean ====
section
/-! DEFINITION. Input Selector, Conversion Stage and Sample Pipeline: gain selection, the column of a crossing, auto-kill and
Revive (01). -/

namespace Sys2Proof.Machine

/-- Gain selection with the hold counter after it: the first of the four steps of R5 that holds. -/
def selectGain (threshold load hold : Nat) (p : CodePair) : Gain × Nat :=
  if p.hgFault then (.low, hold)
  else if threshold ≤ p.hg.toNat then (.low, load)
  else if 0 < hold then (.low, hold - 1)
  else (.high, hold)

/-- The record of the chosen converter (R6). -/
def chosenRecord (g : Gain) (source : Source) (p : CodePair) : Cell :=
  match g with
  | .high => ⟨.good, p.hg, .high, some source⟩
  | .low =>
    if p.lgFault then ⟨.fault, p.lg, .low, some source⟩
    else if p.lg = 4095#12 then ⟨.saturated, p.lg, .low, some source⟩
    else ⟨.good, p.lg, .low, some source⟩

/-- The gain selection of one channel at the current crossing (R5). -/
def channelSelection (s : State) (ch : Channel) (p : CodePair) : Gain × Nat :=
  selectGain (switchThreshold s ch) (gainHold s ch) (s.inputs.channels.get ch).hold p

/-- The record written for a channel (R2, R3, R6). -/
def writtenRecord (s : State) (pairs : Oct CodePair) (ch : Channel) : Cell :=
  match effectiveSource s ch with
  | none => Cell.off
  | some source => chosenRecord (channelSelection s ch (pairs.get ch)).1 source (pairs.get ch)

/-- The hold counter after the crossing (R3, R5). -/
def holdAfter (s : State) (pairs : Oct CodePair) (ch : Channel) : Nat :=
  match effectiveSource s ch with
  | none => 0
  | some _ => (channelSelection s ch (pairs.get ch)).2

/-- The consecutive-fault count after a record (R14). -/
def faultsAfter (state : SampleState) (n : Nat) : Nat :=
  if state = .fault then satInc Config.smallCountLimit n else 0

/-- A channel of the Input Selector and the Conversion Stage after a written crossing (R5, R14); its kill is due when its count
has reached a Kill count other than 0 (R15). -/
def channelAfter (s : State) (pairs : Oct CodePair) (ch : Channel) : InputChannel :=
  let old := s.inputs.channels.get ch
  let faults := faultsAfter (writtenRecord s pairs ch).state old.faults
  { old with
    hold := holdAfter s pairs ch
    faults := faults
    killDue := decide (killCount s ch ≠ 0 ∧ killCount s ch ≤ faults) }

/-- A channel that is not Off has a faulted converter (R7). -/
def converterFault (s : State) (pairs : Oct CodePair) : Bool :=
  channels.any fun ch => (effectiveSource s ch).isSome && ((pairs.get ch).hgFault || (pairs.get ch).lgFault)

/-- A Test Fire took effect at the crossing being formed (R10). -/
def injectedHere (s : State) : Bool :=
  match s.timer.forming with
  | some f => f.injected
  | none => false

/-- The column of the current crossing (R10, R11). -/
def columnOf (s : State) (pairs : Oct CodePair) (p : Position) : Column where
  cells := Oct.ofFn (writtenRecord s pairs)
  number := BitVec.ofNat 12 p.number
  turnLow := p.turnCount.setWidth 12
  gap := isGapCrossing s
  injection := injectedHere s

/-- The pipeline after the column of the crossing is written (R11). -/
def pipelineAfter (s : State) (pairs : Oct CodePair) (p : Position) : Pipeline :=
  { s.pipeline with
    columns := Memory.write (fun _ => StoredColumn.empty) s.pipeline.columns (columnSlot p.index)
      ⟨columnOf s pairs p, some p.index⟩
    head := some p.index }

/-- The converters deliver the code pairs of the crossing (R1). -/
def deliverPairs (pairs : Oct CodePair) (s : State) : State := s.setInputs { s.inputs with pairs := some pairs }

/-- A column is written at the current crossing: there is one, and the pipeline is not frozen (R11, R17). -/
def writesColumn (s : State) : Bool := s.timer.position.isSome && !s.pipeline.frozen

/-- The column write of a crossing start with the gain selection, the fault counts and the ConverterFault report that belong
to it (R5, R7, R11, R14). -/
def writeColumn (pairs : Oct CodePair) (s : State) : State :=
  match s.timer.position with
  | none => s
  | some p =>
    if s.pipeline.frozen then s
    else
      reportIf (converterFault s pairs) .converterFault
        ((s.setPipeline (pipelineAfter s pairs p)).setInputs
          { s.inputs with channels := Oct.ofFn (channelAfter s pairs) })

/-- The kill of one channel, when it is due (R15): its flag is set, its count becomes 0, one ChannelKilled is reported. -/
def killChannel (ch : Channel) (s : State) : State :=
  let c := s.inputs.channels.get ch
  if c.killDue then
    report .channelKilled
      (s.setInputs { s.inputs with
        channels := s.inputs.channels.set ch { c with killed := true, faults := 0, killDue := false } })
  else s

/-- Every kill that is due. -/
def killChannels (s : State) : State := channels.foldl (fun t ch => killChannel ch t) s

/-- Revive of a channel: a killed channel's flag and count are cleared, another one is left alone (R16). -/
def reviveChannel (ch : Channel) (s : State) : State :=
  let c := s.inputs.channels.get ch
  if c.killed then
    s.setInputs { s.inputs with channels := s.inputs.channels.set ch { c with killed := false, faults := 0 } }
  else s

/-- AUTO_KILL (R15). -/
def execAutoKill (ch : Channel) (s : State) : Host.Outcome State Fault Refusal := .next (killChannel ch s)

end Sys2Proof.Machine
end

