-- ==== Sys2Proof/Machine/Tracker.lean ====
section
/-! DEFINITION. The Pedestal Tracker: accumulation in gap crossings, candidates, installs and clearing (10, section 10.1). -/

namespace Sys2Proof.Machine

/-- The accumulator of one gain. -/
def TrackerChannel.get (t : TrackerChannel) (g : Gain) : Accumulator :=
  match g with
  | .high => t.hg
  | .low => t.lg

/-- The channel with the accumulator of one gain replaced. -/
def TrackerChannel.set (t : TrackerChannel) (g : Gain) (a : Accumulator) : TrackerChannel :=
  match g with
  | .high => { t with hg := a }
  | .low => { t with lg := a }

/-- The accumulator of a channel and gain. -/
def accumulator (s : State) (ch : Channel) (g : Gain) : Accumulator := (s.tracker.get ch).get g

/-- The state with the accumulator of a channel and gain replaced. -/
def setAccumulator (s : State) (ch : Channel) (g : Gain) (a : Accumulator) : State :=
  s.setTracker (s.tracker.set ch ((s.tracker.get ch).set g a))

/-- The item address of the pedestal of a channel and gain (R156, items 3 and 4). -/
def pedestalAddress (ch : Channel) (g : Gain) : Nat :=
  match g with
  | .high => valueAddress 3 ch.val
  | .low => valueAddress 4 ch.val

/-- The active pedestal of a channel and gain. -/
def activePedestal (s : State) (ch : Channel) (g : Gain) : Int := itemValue s.settings.active (pedestalAddress ch g)

/-- A candidate lies within the active Track limit of the active pedestal (R174, R175). -/
def withinTrackLimit (s : State) (ch : Channel) (g : Gain) (candidate : Nat) : Bool :=
  decide ((candidate : Int) - activePedestal s ch g ≤ trackLimit s ∧ activePedestal s ch g - (candidate : Int) ≤ trackLimit s)

/-- A code added to an accumulator (R173). The add that brings the count to 64 is left due to the event that forms the
candidate (R174; log 11). -/
def addCode (code : Code) (a : Accumulator) : Accumulator :=
  if a.count + 1 < Config.candidateCodes then { a with sum := a.sum + code.toNat, count := a.count + 1 }
  else { a with due := some code }

/-- The candidate an accumulator forms with its 64th code (R174). -/
def candidateOf (a : Accumulator) (code : Code) : Nat := (a.sum + code.toNat + 8) / 16

/-- The formation of a candidate, when it is due: it is held or dropped against the Track limit, and the accumulator restarts
(R174). -/
def formCandidate (ch : Channel) (g : Gain) (s : State) : State :=
  let a := accumulator s ch g
  match a.due with
  | none => s
  | some code =>
    if withinTrackLimit s ch g (candidateOf a code) then
      setAccumulator s ch g { sum := 0, count := 0, held := some (candidateOf a code), due := none }
    else report .pedestalJump (setAccumulator s ch g { sum := 0, count := 0, held := a.held, due := none })

/-- Every channel and gain. -/
def trackerPlaces : List (Channel × Gain) :=
  channels.flatMap fun ch => [(ch, Gain.high), (ch, Gain.low)]

/-- Every candidate that is due. -/
def formCandidates (s : State) : State := trackerPlaces.foldl (fun t p => formCandidate p.1 p.2 t) s

/-- The offer of a held candidate at a turn boundary: installed within the Track limit, otherwise refused with PedestalJump;
it is no longer held either way (R175). -/
def installCandidate (ch : Channel) (g : Gain) (s : State) : State :=
  let a := accumulator s ch g
  match a.held with
  | none => s
  | some c =>
    if withinTrackLimit s ch g c then
      let t := setAccumulator s ch g { a with held := none }
      t.setSettings { t.settings with active := setItemValue t.settings.active (pedestalAddress ch g) (c : Int) }
    else report .pedestalJump (setAccumulator s ch g { a with held := none })

/-- The installs of a turn boundary, step 2 of its order (R165, R175). -/
def installCandidates (s : State) : State := trackerPlaces.foldl (fun t p => installCandidate p.1 p.2 t) s

/-- An accumulator restarted with its candidate kept (R176). -/
def Accumulator.restarted (a : Accumulator) : Accumulator := { sum := 0, count := 0, held := a.held, due := none }

/-- What a take does to one channel of the tracker (R176): `hgCarried` and `lgCarried` say that it carries the pedestal,
`switchedOff` that it changes Tracking from On to Off, `modeChanged` that it changes the Channel mode while Tracking is On. -/
def trackerAfterTake (hgCarried lgCarried switchedOff modeChanged : Bool) (t : TrackerChannel) : TrackerChannel :=
  if switchedOff then TrackerChannel.reset
  else
    { hg := if hgCarried then Accumulator.clear else if modeChanged then t.hg.restarted else t.hg
      lg := if lgCarried then Accumulator.clear else if modeChanged then t.lg.restarted else t.lg }

/-- A fire of the last eight crossings keeps the current one out of the accumulation (R173). -/
def inInjectionShadow (s : State) (n : Nat) : Bool :=
  s.injection.fires.any fun f => decide (f.index ≤ n ∧ n - f.index ≤ Config.injectionShadow)

/-- The channel accumulates at the current crossing, apart from the column being written (R173). -/
def accumulates (s : State) (n : Nat) (ch : Channel) : Bool :=
  trackingOn s ch && isGapCrossing s && !inInjectionShadow s n
    && (match effectiveSource s ch with
        | some .normal => true
        | some .quiet => true
        | some .test => false
        | none => false)

/-- A channel of the tracker after a crossing at which it accumulates: each gain that is not faulted takes its raw code
(R173). -/
def accumulatePair (p : CodePair) (t : TrackerChannel) : TrackerChannel :=
  { hg := if p.hgFault then t.hg else addCode p.hg t.hg
    lg := if p.lgFault then t.lg else addCode p.lg t.lg }

/-- The pedestal accumulation of a crossing start at which a column is written (R173). -/
def accumulatePedestals (pairs : Oct CodePair) (s : State) : State :=
  match s.timer.position with
  | none => s
  | some p =>
    if s.pipeline.frozen then s
    else
      s.setTracker (Oct.ofFn fun ch =>
        if accumulates s p.index ch then accumulatePair (pairs.get ch) (s.tracker.get ch) else s.tracker.get ch)

/-- PEDESTAL_CANDIDATE (R174). -/
def execPedestalCandidate (ch : Channel) (g : Gain) (s : State) : Host.Outcome State Fault Refusal :=
  .next (formCandidate ch g s)

end Sys2Proof.Machine
end

