-- ==== Sys2Proof/Machine/Injection.lean ====
section
/-! DEFINITION. The Injection Generator: fires, the Injection List, and amplitude scans (10, section 10.2). -/

namespace Sys2Proof.Machine

/-- The charge a Test Fire injects: the current amplitude into every channel in Test mode that is not killed (R177). -/
def firedCharge (s : State) : Oct (Option Nat) :=
  Oct.ofFn fun ch =>
    if channelMode s ch = .test ∧ (s.inputs.channels.get ch).killed = false then some (currentAmplitude s) else none

/-- The Injection List with a record appended; a fifth record pushes out the oldest (R178). -/
def appendFire (fires : List Fire) (f : Fire) : List Fire :=
  (if fires.length < Config.injectionRecords then fires else fires.drop 1) ++ [f]

/-- The Injection List at crossing start `n`: records of 256 or more crossings ago are removed (R178). -/
def agedFires (fires : List Fire) (n : Nat) : List Fire :=
  fires.filter fun f => decide (n < f.index + Config.injectionLife)

/-- The scan after a fire: while Running it is counted; the fire that ends a point leaves the step due to SCAN_STEP (R177,
R180; log 11). -/
def countFire (s : State) : Scan :=
  match s.injection.scan with
  | .running a fires due =>
    if firesPerPoint s ≤ fires + 1 then .running a fires true else .running a (fires + 1) due
  | other => other

/-- The Test Fire of the current crossing (R177): charge, injection flag, record, scan count. The charge is decided with the killed
flags as they stand when the row is taken; a Revive between this row and CROSSING_START does not change it (log 28). -/
def fireTest (s : State) : State :=
  let inj := s.injection
  let t := s.setInjection
    { inj with
      scan := countFire s
      charge := firedCharge s
      fires := match currentIndex s with
        | some n => appendFire inj.fires ⟨n, currentAmplitude s⟩
        | none => inj.fires }
  t.setTimer { t.timer with forming := t.timer.forming.map fun f => { f with injected := true } }

/-- The next amplitude of a scan whose limits allow the whole step, or none when the step passes the limit (R180). -/
def nextAmplitude (s : State) (d : Direction) (a : Int) : Option Int :=
  match d with
  | .up => if a + scanStepSize s ≤ scanHigh s then some (max (a + scanStepSize s) (scanLow s)) else none
  | .down => if scanLow s ≤ a - scanStepSize s then some (min (a - scanStepSize s) (scanHigh s)) else none

/-- Brought within Scan low .. Scan high (R180). -/
def withinScan (s : State) (a : Int) : Int := clampTo (scanLow s) (scanHigh s) a

/-- The turned direction. -/
def Direction.turned (d : Direction) : Direction :=
  match d with
  | .up => .down
  | .down => .up

/-- The step of a scan at a limit, by the End policy: 0 Stop, 1 Wrap, 2 Reverse (R157, R180). -/
def stepAtLimit (s : State) (d : Direction) (a : Int) : Scan × Direction :=
  if endPolicy s = 1 then
    (.running (match d with | .up => scanLow s | .down => scanHigh s).toNat 0 false, d)
  else if endPolicy s = 2 then
    (.running (withinScan s (match d with | .up => a - scanStepSize s | .down => a + scanStepSize s)).toNat 0 false,
      d.turned)
  else (.done (withinScan s a).toNat, d)

/-- The step of the scan amplitude, when it is due (R180). -/
def stepScan (s : State) : State :=
  match s.injection.scan with
  | .running a _ true =>
    let d := s.injection.direction
    let r : Scan × Direction := match nextAmplitude s d (a : Int) with
      | some b => (.running b.toNat 0 false, d)
      | none => stepAtLimit s d (a : Int)
    s.setInjection { s.injection with scan := r.1, direction := r.2 }
  | _ => s

/-- The first amplitude of a scan in a direction (R179). -/
def firstAmplitude (s : State) (d : Direction) : Nat :=
  match d with
  | .up => (scanLow s).toNat
  | .down => (scanHigh s).toNat

/-- ScanStart (R179). -/
def startScan (s : State) : State :=
  let d := scanDirectionItem s
  s.setInjection { s.injection with direction := d, scan := .running (firstAmplitude s d) 0 false }

/-- ScanStop (R179). -/
def stopScan (s : State) : State := s.setInjection { s.injection with scan := .off }

/-- SCAN_STEP (R180). -/
def execScanStep (s : State) : Host.Outcome State Fault Refusal := .next (stepScan s)

end Sys2Proof.Machine
end

