-- ==== Sys2Proof/Machine/SettingsStore.lean ====
section
/-! DEFINITION. The Settings Store: writes and reads of items, the Take check, and its part of a turn boundary (09). -/

namespace Sys2Proof.Machine

/-- A setting set after the pending value of every touched item is put in place of its active value: the set a take would
produce (R161). -/
def producedSet (x : Settings) : List (Nat × Int) :=
  (x.touched.flatMap itemAddresses).foldl (fun m a => setItemValue m a (itemValue x.pending a)) x.active

/-- A global value of a setting set. -/
def globalValue (m : List (Nat × Int)) (number : Nat) : Int := itemValue m (valueAddress number 0)

/-- The window length a setting set gives: pre + 1 + post. -/
def windowSpan (m : List (Nat × Int)) : Int := itemValue m (windowAddress + 1) + 1 + itemValue m (windowAddress + 2)

/-- The seven consistency conditions of a setting set, in their order (R161). -/
def consistencyConditions (m : List (Nat × Int)) : List Bool :=
  [decide (5 ≤ windowSpan m ∧ windowSpan m ≤ 16),
   decide (itemValue m (windowAddress + 3) ≤ windowSpan m - 5),
   decide (itemValue m windowAddress + itemValue m (windowAddress + 1) ≤ 254),
   decide (itemValue m (windowAddress + 2) < itemValue m windowAddress),
   decide (globalValue m 49 ≤ globalValue m 50 ∧ globalValue m 50 < globalValue m 48),
   decide (globalValue m 59 < globalValue m 58 ∧ globalValue m 61 < globalValue m 60 ∧ globalValue m 62 < globalValue m 63),
   decide (globalValue m 67 ≤ globalValue m 68)]

/-- The number of the first condition that fails, if any (R162). -/
def firstFailing (m : List (Nat × Int)) : Option Nat :=
  ((consistencyConditions m).findIdx? fun b => !b).map fun i => i + 1

/-- The Settings Store with an item's values stored in the Pending Set and its touched flag set (R158). -/
def storePending (x : Settings) (item : Nat) (values : List (Nat × Int)) : Settings :=
  { x with
    pending := values.foldl (fun m v => setItemValue m v.1 v.2) x.pending
    touched := touch item x.touched }

/-- WriteItem of the Window group: each field is clamped to its own range, and the four are stored together (R159). -/
def writeWindowGroup (value : Word) (x : Settings) : Settings × Reply :=
  let fields := windowWordFields value
  let clamped := fields.zipIdx.map fun p => clampTo (windowField p.2).1 (windowField p.2).2.1 (p.1 : Int)
  let y := storePending x windowAddress (clamped.zipIdx.map fun p => (windowAddress + p.2, p.1))
  (y, if clamped = fields.map (fun n => (n : Int)) then .done [] else .clamped (windowWord y.pending))

/-- WriteItem: the first row of R158 that applies. -/
def writeItemValue (number index : Nat) (value : Word) (x : Settings) : Settings × Reply :=
  match itemRow number with
  | none => (x, .refused .range)
  | some row =>
    match itemArgument row index with
    | none => (x, .refused .range)
    | some item =>
      if x.take = .scheduled then (x, .refused .takePending)
      else if row.scope = .windowGroup then writeWindowGroup value x
      else if row.low ≤ value.toInt ∧ value.toInt ≤ row.high then
        (storePending x item [(item, value.toInt)], .done [])
      else if row.enumerated then (x, .refused .range)
      else
        let stored := clampTo row.low row.high value.toInt
        (storePending x item [(item, stored)], .clamped (signedWord stored))

/-- ReadItem: the pending or the active value of an item (R160). -/
def readItemReply (number index : Nat) (wantsPending : Bool) (x : Settings) : Reply :=
  match itemRow number with
  | none => .refused .range
  | some row =>
    match itemArgument row index with
    | none => .refused .range
    | some item =>
      let m := if wantsPending then x.pending else x.active
      if row.scope = .windowGroup then .done [windowWord m] else .done [signedWord (itemValue m item)]

/-- The answer to Take: the first row of R162 that applies. -/
def takeReply (s : State) : Reply :=
  if s.settings.take = .scheduled then .refused .takePending
  else if s.settings.touched = [] then .done []
  else if s.settings.touched.any isRunLocked = true ∧ s.run.state ≠ .idle then .refused .runLocked
  else match firstFailing (producedSet s.settings) with
    | some k => .invalidSet k
    | none => .scheduled

/-- Take: an accepted take is scheduled, anything else changes nothing (R162). -/
def scheduleTake (s : State) : State :=
  if takeReply s = .scheduled then s.setSettings { s.settings with take := .scheduled } else s

/-- CancelTake: a scheduled take is withdrawn, the touched items are kept (R163). -/
def cancelScheduled (s : State) : State := s.setSettings { s.settings with take := .none }

/-- The three words of ReadTakeState (R164). -/
def takeStateWords (x : Settings) : List Word :=
  [numberWord (if x.take = .scheduled then 1 else 0), numberWord x.touched.length, numberWord x.generation.toNat]

/-! ### The turn boundary (R165) -/

/-- The tracker after step 1 of a boundary's take, where `s` stands before it and `new` is the Active Set after it (R176). -/
def trackerAtTake (s : State) (new : List (Nat × Int)) : Oct TrackerChannel :=
  Oct.ofFn fun ch =>
    let wasOn := trackingOn s ch
    let isOn := itemValue new (valueAddress 22 ch.val) == 1
    let modeChanged := itemValue new (valueAddress 1 ch.val) != active s 1 ch.val
    trackerAfterTake (s.settings.touched.contains (pedestalAddress ch .high))
      (s.settings.touched.contains (pedestalAddress ch .low)) (wasOn && !isOn) (wasOn && isOn && modeChanged)
      (s.tracker.get ch)

/-- Step 1 of a boundary: a scheduled take copies the touched pending values into the Active Set, clears the touched flags and
the take state, and clears the tracker where R176 says so (R165). -/
def applyTake (s : State) : State :=
  if s.settings.take = .scheduled then
    let new := producedSet s.settings
    (s.setTracker (trackerAtTake s new)).setSettings { s.settings with active := new, touched := [], take := .none }
  else s

/-- Step 3 of a boundary: the generation increments when the boundary changed an active value (R165, R166). `before` is the
Active Set before step 1. -/
def countGeneration (before : List (Nat × Int)) (s : State) : State :=
  if s.settings.active = before then s
  else s.setSettings { s.settings with generation := s.settings.generation + 1 }

/-- The Settings Store's steps 1 to 3 at a turn boundary, in their order (R165). -/
def settingsBoundary (s : State) : State :=
  countGeneration s.settings.active (installCandidates (applyTake s))

end Sys2Proof.Machine
end

