-- ==== Sys2Proof/Machine/Towers.lean ====
section
/-! DEFINITION. The Tower Sum Unit: tower sums, histories, primitives; and the uplink frame of the Trigger Port (03, 04). -/

namespace Sys2Proof.Machine

/-- Pedestal subtraction: four times the code minus the pedestal of the record's gain (R55, R98). -/
def subtractPedestal (hgPed lgPed : Int) (c : Cell) : Int :=
  match c.gain with
  | .high => 4 * (c.code.toNat : Int) - hgPed
  | .low => 4 * (c.code.toNat : Int) - lgPed

/-- Unification: a Low sample is scaled by the gain ratio, rounding toward minus infinity (R55, R99). -/
def unify (hgPed lgPed ratio : Int) (c : Cell) : Int :=
  match c.gain with
  | .high => subtractPedestal hgPed lgPed c
  | .low => (subtractPedestal hgPed lgPed c * ratio + 128) / 256

/-- The contribution of a unified sample with a trigger weight (R57). -/
def contribution (u w : Int) : Int := (u * w + 32768) / 65536

/-- A record is usable for a sum: Good or Saturated (R56, R97). -/
def Cell.usable (c : Cell) : Bool :=
  match c.state with
  | .good => true
  | .saturated => true
  | .fault => false
  | .off => false
  | .empty => false

/-- The record contributes to its tower: usable and not from a Quiet source (R56). -/
def Cell.contributes (c : Cell) : Bool := c.usable && decide (c.source ≠ some .quiet)

/-- The record makes its tower invalid: Fault from a source other than Quiet, or Empty (R56). -/
def Cell.invalidates (c : Cell) : Bool :=
  match c.state with
  | .fault => decide (c.source ≠ some .quiet)
  | .empty => true
  | .good => false
  | .saturated => false
  | .off => false

/-- The channel belongs to the tower (R53). -/
def inTower (s : State) (t : Tower) (ch : Channel) : Bool := towerAssignment s ch == (t.val : Int)

/-- What one channel adds to its tower's sum (R56, R57). -/
def channelContribution (s : State) (cells : Oct Cell) (t : Tower) (ch : Channel) : Int :=
  if inTower s t ch && (cells.get ch).contributes then
    contribution (unify (hgPedestal s ch) (lgPedestal s ch) (gainRatio s ch) (cells.get ch)) (triggerWeight s ch)
  else 0

/-- The sum and marks of one tower at a crossing (R57). -/
def towerSum (s : State) (cells : Oct Cell) (t : Tower) : TowerSum where
  sum := (channels.map (channelContribution s cells t)).sum
  invalid := channels.any fun ch => inTower s t ch && (cells.get ch).invalidates
  saturated := channels.any fun ch =>
    inTower s t ch && (cells.get ch).contributes && decide ((cells.get ch).state = .saturated)

/-- The history shifted by one with a new newest entry (R58). -/
def TowerHistory.shift (h : TowerHistory) (n : TowerSum) : TowerHistory := ⟨h.middle, h.newest, some n⟩

/-- The primitive of a peak value compressed by a Shift (R64). -/
def compress (g : Nat) (v : Int) : Primitive :=
  if v ≤ 0 then ⟨0, .none⟩
  else
    let et := (v + 2 ^ g / 2) / 2 ^ g
    if 255 < et then ⟨255, .saturated⟩ else ⟨BitVec.ofInt 8 et, .none⟩

/-- The value of a peak by the tower's Mode (R63). -/
def peakValue (pair : Bool) (older middle newest : Int) : Int :=
  if pair then middle + max older newest else middle

/-- Some present entry of a history is invalid (R60). -/
def TowerHistory.someInvalid (h : TowerHistory) : Bool :=
  [h.older, h.middle, h.newest].any fun e => match e with
    | some x => x.invalid
    | none => false

/-- The primitive of an invalid entry by the tower's Invalid policy: 0 Suppress, 1 Force, 2 Signal (R60, R156). -/
def invalidPrimitive (policy : Int) : Primitive := if policy = 1 then ⟨255, .invalid⟩ else ⟨0, .invalid⟩

/-- The entry for n − 1 is present and saturated: step 1 of R59. -/
def TowerHistory.centreSaturated (h : TowerHistory) : Bool :=
  match h.middle with
  | some x => x.saturated
  | none => false

/-- The primitive decided from a history: the first step of R59 that applies. -/
def decidePrimitive (pair : Bool) (g : Nat) (policy : Int) (h : TowerHistory) : Primitive :=
  if h.centreSaturated then ⟨255, .saturated⟩
  else if h.someInvalid then invalidPrimitive policy
  else match h.older, h.middle, h.newest with
    | some a, some b, some c =>
      if a.sum < b.sum ∧ c.sum ≤ b.sum then compress g (peakValue pair a.sum b.sum c.sum) else ⟨0, .none⟩
    | _, _, _ => ⟨0, .invalid⟩

/-- The decision reports TowerInvalid: policy Signal in the invalid-entry case (R61). -/
def signalsInvalid (policy : Int) (h : TowerHistory) : Bool :=
  !h.centreSaturated && h.someInvalid && policy == 2

/-- The primitive of a tower as its history stands (R59, R63). -/
def towerPrimitive (s : State) (t : Tower) : Primitive :=
  decidePrimitive (towerPairMode s t) (towerShift s t) (invalidPolicy s t) (s.towers.get t)

/-- The tower reports TowerInvalid in this frame (R61). -/
def towerSignals (s : State) (t : Tower) : Bool := signalsInvalid (invalidPolicy s t) (s.towers.get t)

/-- Primitives are real at this crossing: its column is written and the part is Synced (R65). -/
def primitivesReal (s : State) : Bool := writesColumn s && decide (s.timer.sync = .synced)

/-- The four primitives handed to the Trigger Port (R65). -/
def handedPrimitives (s : State) : Quad Primitive :=
  if primitivesReal s then Quad.ofFn (towerPrimitive s) else Quad.all ⟨0, .none⟩

/-- The tower sums of the column just written, which is the column of age 0, enter the histories (R54, R58). -/
def updateTowers (s : State) : State :=
  match s.timer.position with
  | none => s
  | some p =>
    if s.pipeline.frozen then s
    else
      let cells := (storedColumn s.pipeline (columnSlot p.index)).column.cells
      s.setTowers (Quad.ofFn fun t => (s.towers.get t).shift (towerSum s cells t))

/-- The TowerInvalid occurrences of the frame, one for each tower that signals (R61). -/
def reportTowers (s : State) : State :=
  [(0 : Tower), 1, 2, 3].foldl (fun u t => reportIf (primitivesReal s && towerSignals s t) .towerInvalid u) s

/-- The uplink frame as the state stands (R43 to R47). -/
def uplinkFrame (s : State) : UplinkFrame where
  primitives := handedPrimitives s
  status := statusCode s
  attention := attention s
  turnStart := crossingNumber s == 0

/-- The uplink frame of the crossing is formed after the throttle evaluation, and sent (R43, R48). -/
def sendUplink (s : State) : State :=
  let t := evaluateThrottle s
  t.setTrigger { t.trigger with uplink := some (uplinkFrame t) }

end Sys2Proof.Machine
end

