-- ==== Sys2Proof/Machine/Reconstruction.lean ====
section
/-! DEFINITION. The Reconstruction Engine and what it does to the Event Buffer: begin, the seven stages, records, completion and
abandonment (06, 07). -/

namespace Sys2Proof.Machine

/-! ### The snapshot (R92) -/

/-- The snapshot of one channel's settings. -/
def calibrationOf (s : State) (ch : Channel) : ChannelCalibration where
  hgPedestal := hgPedestal s ch
  lgPedestal := lgPedestal s ch
  gainRatio := gainRatio s ch
  a0 := active s 8 ch.val
  a1 := active s 9 ch.val
  a2 := active s 10 ch.val
  a3 := active s 11 ch.val
  a4 := active s 12 ch.val
  energyConstant := active s 18 ch.val
  b0 := active s 13 ch.val
  b1 := active s 14 ch.val
  b2 := active s 15 ch.val
  b3 := active s 16 ch.val
  b4 := active s 17 ch.val
  quietThreshold := active s 20 ch.val
  negativeThreshold := active s 21 ch.val

/-- The snapshot as the Active Set stands (R92). -/
def snapshotOf (s : State) : Snapshot where
  channel := Oct.ofFn (calibrationOf s)
  timeFloor := active s 54 0
  pileUpFloor := active s 53 0
  pileUpFraction := active s 52 0
  keepAll := activeOn s 57 0
  rawAlways := activeOn s 56 0

/-! ### The arithmetic (06, section 6.4) -/

/-- The record of a channel at a window position, with the column's injection flag; Empty beyond the copied columns. -/
def sampleAt (w : Window) (ch : Channel) (p : Nat) : Cell × Bool :=
  match w.columns[p]? with
  | some c => (c.cells.get ch, c.injection)
  | none => (Cell.empty, false)

/-- The record of a channel at a window position. -/
def cellAt (w : Window) (ch : Channel) (p : Nat) : Cell := (sampleAt w ch p).1

/-- Stages 1 and 2: the unified sample of a position (R98, R99). -/
def unifiedAt (k : ChannelCalibration) (w : Window) (ch : Channel) (p : Nat) : Int :=
  unify k.hgPedestal k.lgPedestal k.gainRatio (cellAt w ch p)

/-- The five tap positions (06, section 6.4). -/
def tapPositions (w : Window) : List Nat :=
  [w.tapStart, w.tapStart + 1, w.tapStart + 2, w.tapStart + 3, w.tapStart + 4]

/-- All five tap records are usable (R97). -/
def tapsUsable (w : Window) (ch : Channel) : Bool := (tapPositions w).all fun p => (cellAt w ch p).usable

/-- The weighted sum of the five taps (R100, R102). -/
def tapSum (k : ChannelCalibration) (w : Window) (ch : Channel) (f0 f1 f2 f3 f4 : Int) : Int :=
  f0 * unifiedAt k w ch w.tapStart + f1 * unifiedAt k w ch (w.tapStart + 1) + f2 * unifiedAt k w ch (w.tapStart + 2)
    + f3 * unifiedAt k w ch (w.tapStart + 3) + f4 * unifiedAt k w ch (w.tapStart + 4)

/-- The filter division: floor((x + 8192) / 16384) (R100, R102). -/
def filterRound (x : Int) : Int := (x + 8192) / 16384

/-- Stage 3 before its clamp (R100). -/
def rawAmplitude (k : ChannelCalibration) (w : Window) (ch : Channel) : Int :=
  filterRound (tapSum k w ch k.a0 k.a1 k.a2 k.a3 k.a4)

/-- The clamp of A and of B (R100, R102). -/
def clampAmplitude (a : Int) : Int := clampTo (-524288) 524287 a

/-- Stage 4 before its clamp (R101). -/
def rawEnergy (k : ChannelCalibration) (a : Int) : Int := (a * k.energyConstant + 32768) / 65536

/-- The clamp of E (R101). -/
def clampEnergy (e : Int) : Int := clampTo (-32768) 32767 e

/-- Stage 5: the time, when one is computed (R102). Its division truncates toward zero. -/
def pulseTime (floor : Int) (k : ChannelCalibration) (w : Window) (ch : Channel) (a : Int) : Option Int :=
  if floor ≠ 0 ∧ floor ≤ a then
    let b := clampAmplitude (filterRound (tapSum k w ch k.b0 k.b1 k.b2 k.b3 k.b4))
    some (clampTo (-128) 127 ((64 * b).tdiv a))
  else none

/-- A position shows pile-up (R103). -/
def showsPileUp (x : Snapshot) (k : ChannelCalibration) (w : Window) (ch : Channel) (a : Int) (p : Nat) : Bool :=
  (decide (p < w.tapStart) || decide (w.tapStart + 4 < p)) && (cellAt w ch p).usable
    && decide (x.pileUpFloor < unifiedAt k w ch p) && decide (x.pileUpFraction * a < unifiedAt k w ch p * 256)

/-- Stage 6 (R103). -/
def pileUpFound (x : Snapshot) (k : ChannelCalibration) (w : Window) (ch : Channel) (a : Int) : Bool :=
  decide (0 < a) && (List.range w.length).any (showsPileUp x k w ch a)

/-- The classes (R104). -/
inductive PulseClass where
  | fault
  | overflow
  | negative
  | quiet
  | pulse
  deriving DecidableEq, Repr

/-- The code of a class in a record (R147). -/
def PulseClass.code (c : PulseClass) : BitVec 3 :=
  match c with
  | .fault => 0
  | .overflow => 1
  | .negative => 2
  | .quiet => 3
  | .pulse => 4

/-- What the stages make of one present channel (R109). -/
structure ChannelResult where
  cls : PulseClass
  lowGain : Bool
  pileUp : Bool
  test : Bool
  quietSource : Bool
  time : Option Int
  amplitude : Int
  energy : Int
  deriving DecidableEq, Repr

/-- Stage 7 for a channel whose taps are usable: rows 2 to 5 of R104. `a` and `e` are the values before their clamps. -/
def classify (saturatedTap : Bool) (a e : Int) (k : ChannelCalibration) : PulseClass :=
  if saturatedTap = true ∨ 524287 < a ∨ 32767 < e then .overflow
  else if a < -524288 ∨ e < -32768 ∨ e < -k.negativeThreshold then .negative
  else if e ≤ k.quietThreshold then .quiet
  else .pulse

/-- The outcome of a present channel (R97 to R106). -/
def reconstructChannel (x : Snapshot) (w : Window) (ch : Channel) : ChannelResult :=
  let k := x.channel.get ch
  let low := (tapPositions w).any fun p => (cellAt w ch p).gain == .low
  let atAccept := (cellAt w ch w.pre).source
  let test := w.testMatch.isSome && decide (atAccept = some .test)
  let quietSource := decide (atAccept = some .quiet)
  if tapsUsable w ch then
    let rawA := rawAmplitude k w ch
    let a := clampAmplitude rawA
    let rawE := rawEnergy k a
    let saturatedTap := (tapPositions w).any fun p => (cellAt w ch p).state == .saturated
    { cls := classify saturatedTap rawA rawE k
      lowGain := low
      pileUp := pileUpFound x k w ch a
      test := test
      quietSource := quietSource
      time := pulseTime x.timeFloor k w ch a
      amplitude := a
      energy := clampEnergy rawE }
  else
    { cls := .fault, lowGain := low, pileUp := false, test := test, quietSource := quietSource, time := none,
      amplitude := 0, energy := 0 }

/-! ### Records (06, section 6.9) -/

/-- A present channel receives a record (R107). -/
def keepsRecord (x : Snapshot) (w : Window) (r : ChannelResult) : Bool :=
  decide (r.cls ≠ .quiet) || x.keepAll || w.rawForced || x.rawAlways

/-- A record receives raw samples (R108). -/
def attachesRaw (x : Snapshot) (w : Window) (r : ChannelResult) : Bool :=
  decide (r.cls = .fault) || decide (r.cls = .overflow) || r.pileUp || w.rawForced || x.rawAlways

/-- The state code of a raw sample: Off and Empty are both Missing (R110, R147). -/
def rawStateCode (x : SampleState) : BitVec 2 :=
  match x with
  | .good => 0
  | .saturated => 1
  | .fault => 2
  | .off => 3
  | .empty => 3

/-- The 16 bits of a raw sample (R110, R147). -/
def rawSample (c : Cell × Bool) : BitVec 16 :=
  c.1.code ++ (Gain.bit c.1.gain ++ (rawStateCode c.1.state ++ flagBit c.2))

/-- Raw word `i` of a channel: positions 2i and 2i + 1, zero beyond the window (R108, R147). -/
def rawWord (w : Window) (ch : Channel) (i : Nat) : Word :=
  rawSample (sampleAt w ch (2 * i)) ++ (if 2 * i + 1 < w.length then rawSample (sampleAt w ch (2 * i + 1)) else 0#16)

/-- The number of raw words of a window: ceil(W / 2) (R108). -/
def rawWordCount (windowLength : Nat) : Nat := (windowLength + 1) / 2

/-- The first word of a record (R109, R147). -/
def recordWord1 (ch : Channel) (r : ChannelResult) (rawCount : Nat) : Word :=
  BitVec.ofNat 3 ch.val ++ (r.cls.code ++ (flagBit r.lowGain ++ (flagBit r.pileUp ++ (flagBit r.test ++
    (flagBit r.quietSource ++ (flagBit r.time.isSome ++ (BitVec.ofNat 5 rawCount ++
      (BitVec.ofInt 8 (r.time.getD 0) ++ 0#8))))))))

/-- The words of a record: three, and the raw words when they are attached (R108, R109). -/
def recordWords (x : Snapshot) (w : Window) (ch : Channel) (r : ChannelResult) : List Word :=
  let raw := attachesRaw x w r
  recordWord1 ch r (if raw then w.length else 0) :: (0#12 ++ BitVec.ofInt 20 r.amplitude) ::
    (0#16 ++ BitVec.ofInt 16 r.energy) ::
    (if raw then (List.range (rawWordCount w.length)).map (rawWord w ch) else [])

/-- The words channel `ch` places: its record's, or none when it is absent or suppressed (R107). -/
def channelWords (x : Snapshot) (w : Window) (ch : Channel) : List Word :=
  if w.present.get ch then
    let r := reconstructChannel x w ch
    if keepsRecord x w r then recordWords x w ch r else []
  else []

/-! ### Begin (R91 to R94) -/

/-- The descriptor of a slot at a begin (R93, R94, R115). -/
def descriptorOf (s : State) (w : Window) (state : DescriptorState) (truncated : Bool)
    (payload : Option PayloadReference) : Descriptor where
  event := w.event
  epoch := w.epoch
  number := w.number
  turnLow := w.turnLow
  generation := s.settings.generation
  windowLength := w.length
  state := state
  truncated := truncated
  late := w.late
  diagnostic := w.diagnostic
  rawForced := w.rawForced
  testMatch := w.testMatch
  payload := payload

/-- The reservation of a window length: 4 + 8 × (3 + ceil(W / 2)) (R94). -/
def reservation (windowLength : Nat) : Nat := 4 + 8 * (3 + rawWordCount windowLength)

/-- A descriptor without payload is appended, Ready at once, and the slot is Free (R93, R94, R120). -/
def endAtOnce (w : Window) (truncated : Bool) (s : State) : State :=
  let t := s.setBuffer { s.buffer with ring := s.buffer.ring ++ [descriptorOf s w .ready truncated none] }
  t.setWindows (freeWindow t.windows w.slot)

/-- A begin that proceeds: descriptor and reservation, slot In use, snapshot (R92, R94, R119). -/
def beginBuilding (w : Window) (s : State) : State :=
  let r := reservation w.length
  let b := s.buffer
  let t := s.setBuffer
    { b with
      ring := b.ring ++ [descriptorOf s w .building false (some ⟨b.fillPoint, r⟩)]
      fillPoint := (b.fillPoint + r) % Config.payloadWords
      wordsInUse := b.wordsInUse + r }
  let u := t.setWindows (updateWindow t.windows w.slot fun x => { x with state := .inUse })
  u.setRecon (some
    { slot := w.slot
      snapshot := snapshotOf s
      generation := s.settings.generation
      channel := 0
      phase := .begun
      recordPosition := headerLength w.testMatch
      records := 0 })

/-- The begin on a slot: Late, Truncated, or an event that proceeds (R93, R94). -/
def beginEvent (w : Window) (s : State) : State :=
  if w.late then endAtOnce w false s
  else if reservation w.length ≤ wordsFree s.buffer then beginBuilding w s
  else report .truncated (endAtOnce w true s)

/-- The engine has already looked for an event at the crossing start being formed (R91). -/
def reconstructionLooked (s : State) : Bool :=
  match s.timer.forming with
  | some f => f.reconstructionLooked
  | none => false

/-- The engine is Idle and has its look of this crossing start still to make (R91). -/
def looksForEvent (s : State) : Bool := s.recon.isNone && !reconstructionLooked s

/-- The slot a look now finds: the ring holds fewer than 64 descriptors, and this is the earliest-claimed Full slot (R91). -/
def reconstructionCandidate (s : State) : Option Window :=
  if s.buffer.ring.length < Config.ringDepth then earliestFull s.windows else none

/-- The engine has looked at this crossing start. -/
def markLook (s : State) : State :=
  s.setTimer { s.timer with forming := s.timer.forming.map fun f => { f with reconstructionLooked := true } }

/-- The look of the engine at a crossing start at which it is Idle: a begin, when its conditions hold; otherwise it looks again at
the next crossing start (R91). -/
def beginReconstruction (s : State) : State :=
  if looksForEvent s then
    markLook
      (match reconstructionCandidate s with
       | none => s
       | some w => beginEvent w s)
  else s

/-! ### Placement and completion (R95, R96) -/

/-- The outcome of the current channel is placed at the record position (R95). -/
def placeChannel (b : Building) (start : Nat) (w : Window) (s : State) : State :=
  let ws := channelWords b.snapshot w b.channel
  let t := s.setBuffer { s.buffer with words := placeWords s.buffer.words (start + b.recordPosition) ws }
  t.setRecon (some
    { b with
      phase := .placed
      recordPosition := b.recordPosition + ws.length
      records := b.records + (if ws.isEmpty then 0 else 1) })

/-- The slot and the payload reference of the current event (R90). -/
def currentEvent (s : State) : Option (Building × Window × Descriptor × PayloadReference) :=
  match s.recon, s.buffer.ring.getLast? with
  | some b, some d =>
    match findWindow s.windows b.slot, d.payload with
    | some w, some p => some (b, w, d, p)
    | _, _ => none
  | _, _ => none

/-- The Event Buffer's completion of a descriptor with `m` words written (R121). -/
def completeDescriptor (b : EventBuffer) (d : Descriptor) (p : PayloadReference) (m : Nat) : EventBuffer :=
  { b with
    ring := b.ring.dropLast ++ [{ d with state := .ready, payload := some ⟨p.start, m⟩ }]
    fillPoint := (p.start + m) % Config.payloadWords
    wordsInUse := b.wordsInUse - (p.length - m) }

/-- The completion of the current event: channel 7 is placed, the header written, the unused reservation returned, the
descriptor Ready, the slot Free, the engine Idle (R96, R121). -/
def completeEvent (s : State) : State :=
  match currentEvent s with
  | none => s
  | some (b, w, d, p) =>
    let ws := channelWords b.snapshot w b.channel
    let position := b.recordPosition + ws.length
    let records := b.records + (if ws.isEmpty then 0 else 1)
    let header := headerWords d w.present records (attention s)
    let placed := placeWords (placeWords s.buffer.words (p.start + b.recordPosition) ws) p.start header
    let t := s.setBuffer (completeDescriptor { s.buffer with words := placed } d p position)
    (t.setWindows (freeWindow t.windows b.slot)).setRecon none

/-- The first crossing of channel 7 stands: the event may complete in the next one, before or after its start (R95, R96). -/
def Building.mayComplete (b : Building) : Bool := decide (b.channel = 7) && decide (b.phase = .first)

/-- The start of crossing b + 16 has been taken and the completion has not (R96). -/
def completionDue (s : State) : Bool :=
  match s.recon with
  | some b => decide (b.phase = .due)
  | none => false

/-- One crossing start passes for the current event (R95): the first crossing of channel 0 or of the next channel, or the placement
of the current one, or, for channel 7, the completion falls due. A begin of this crossing start does not count. -/
def advanceReconstruction (s : State) : State :=
  match currentEvent s with
  | none => s
  | some (b, w, _, p) =>
    if reconstructionLooked s then s
    else match b.phase with
      | .begun => s.setRecon (some { b with phase := .first })
      | .first =>
        if b.channel = 7 then s.setRecon (some { b with phase := .due })
        else placeChannel b p.start w s
      | .placed => s.setRecon (some { b with channel := b.channel + 1, phase := .first })
      | .due => s

/-! ### Abandonment (R111, R123) -/

/-- The Building descriptor is removed and its reservation returned (R123). -/
def removeNewest (b : EventBuffer) : EventBuffer :=
  match b.ring.getLast? with
  | none => b
  | some d =>
    match d.payload with
    | none => { b with ring := b.ring.dropLast }
    | some p => { b with ring := b.ring.dropLast, fillPoint := p.start, wordsInUse := b.wordsInUse - p.length }

/-- The current event, if any, is abandoned: its descriptor and reservation go, its slot is Free, the engine Idle (R111). -/
def abandonEvent (s : State) : State :=
  match s.recon with
  | none => s
  | some b => ((s.setBuffer (removeNewest s.buffer)).setWindows (freeWindow s.windows b.slot)).setRecon none

end Sys2Proof.Machine
end

