-- ==== Sys2Proof/Machine/Timing.lean ====
section
/-! DEFINITION. The Crossing Timer: how a crossing is opened, how its number is formed, its turn boundary, and turn markers
(02, sections 2.1 and 2.2). -/

namespace Sys2Proof.Machine

/-! ### Opening a crossing (log 1) -/

/-- The completion of the current event, when it is due (R96). -/
def completeDue (s : State) : State := if completionDue s then completeEvent s else s

/-- The kills, candidates and scan step that the last updates have left due (R15, R174, R180; log 11). -/
def makeDue (s : State) : State := stepScan (formCandidates (killChannels s))

/-- What is due before a request is executed: kills, candidates, a scan step, and the drain (R34; log 11). -/
def settleRequest (s : State) : State := drain (makeDue s)

/-- What is due before a crossing is opened: the same, and the completion of the current event (R96; log 11). -/
def settle (s : State) : State := drain (completeDue (makeDue s))

/-- The position at the next crossing start, its number still that of the crossing before: index 0 with number 0 and turn count 0
after a reset (R21, R22, R26). -/
def nextPosition (p : Option Position) : Position :=
  match p with
  | none => ⟨0, 0, 0⟩
  | some x => { x with index := x.index + 1 }

/-- The next crossing gets its absolute index, and the Injection List is aged to it (R21, R178). A crossing that is already being
formed stays as it is. -/
def openCrossing (s : State) : State :=
  if isForming s then s
  else
    let t := settle s
    let p := nextPosition t.timer.position
    let u := t.setTimer { t.timer with position := some p, forming := some Forming.fresh }
    u.setInjection { u.injection with fires := agedFires u.injection.fires p.index, charge := Oct.all none }

/-- The record of the crossing being formed with `f` applied. -/
def updateForming (f : Forming → Forming) (s : State) : State :=
  s.setTimer { s.timer with forming := s.timer.forming.map f }

/-! ### The crossing number (R22) -/

/-- The number the counter gives the crossing being formed, where `p` holds the number of the crossing before (R22). -/
def counterNumber (s : State) (p : Position) : Nat :=
  if p.index = 0 then 0 else if p.number + 1 = turnLength s then 0 else p.number + 1

/-- The counter forms the crossing number, unless it has been formed (R22). -/
def formNumber (s : State) : State :=
  match s.timer.position, s.timer.forming with
  | some p, some f =>
    if f.numberFormed then s
    else
      let n := counterNumber s p
      s.setTimer
        { s.timer with
          position := some { p with number := n }
          forming := some { f with numberFormed := true, boundaryDue := n == 0 } }
  | _, _ => s

/-! ### The turn boundary (R22, R24, R29, R165) -/

/-- The boundary of the crossing being formed has still to be announced. -/
def boundaryDue (s : State) : Bool :=
  match s.timer.forming with
  | some f => f.boundaryDue
  | none => false

/-- A Starting run enters Run at a boundary (R29). -/
def startingRunBegins (s : State) : State := if s.run.state = .starting then beginRun s else s

/-- The turn count at a boundary: 0 at index 0 and where the run state enters Run, one more otherwise, 65535 followed by 0 (R22). -/
def boundaryTurnCount (p : Position) (entersRun : Bool) : BitVec 16 :=
  if p.index = 0 ∨ entersRun = true then 0 else p.turnCount + 1

/-- The Crossing Timer's part of a boundary at which the turn length `changed` (R22, R24). -/
def timerAtBoundary (t : Timer) (p : Position) (f : Forming) (entersRun changed : Bool) : Timer :=
  { t with
    position := some { p with turnCount := boundaryTurnCount p entersRun }
    sync := if changed then .unsynced else t.sync
    forming := some { f with boundaryDue := false, lengthChanged := f.lengthChanged || changed } }

/-- The turn boundary of the crossing being formed, when it is due: the Settings Store's steps, the begin of a Starting run, the
turn count (R22, R24, R29, R165). -/
def takeBoundary (s : State) : State :=
  match s.timer.position, s.timer.forming with
  | some p, some f =>
    if f.boundaryDue then
      let entersRun := f.enteredRun || decide (s.run.state = .starting)
      let t := startingRunBegins (settingsBoundary s)
      t.setTimer (timerAtBoundary t.timer p f entersRun (decide (turnLength t ≠ turnLength s)))
    else s
  | _, _ => s

/-- The crossing is opened, its number formed by the counter if it has none yet, and its boundary taken if it is due. -/
def enterCrossing (s : State) : State := takeBoundary (formNumber (openCrossing s))

/-! ### Frames (R40) -/

/-- The frame of the crossing being formed has been taken (R40). -/
def frameTaken (s : State) : Bool :=
  match s.timer.forming with
  | some f => f.frameTaken
  | none => false

/-- The frame of the crossing being formed is taken. -/
def markFrame (s : State) : State := updateForming (fun f => { f with frameTaken := true }) s

/-- A frame command other than Turn Marker takes effect in the crossing being formed, after its boundary (R29; log 5); a second
frame in one crossing changes nothing (log 4). -/
def takeFrame (effect : State → State) (s : State) : State :=
  if frameTaken s then s else effect (markFrame (enterCrossing s))

/-! ### Turn markers (R23) -/

/-- The number the crossing being formed has, or would have, without the marker (R23). -/
def expectedNumber (s : State) (p : Position) (f : Forming) : Nat :=
  if f.numberFormed then p.number else counterNumber s p

/-- The marker realigns with a TurnSlip: Synced, expected number not 0, not Resyncing (R23). -/
def markerSlips (s : State) (expected : Nat) : Bool :=
  decide (s.timer.sync = .synced) && decide (expected ≠ 0) && decide (s.run.state ≠ .resyncing)

/-- The Crossing Timer after a marker: number 0, Synced, and a boundary due unless this crossing's has been made (R23, R24). -/
def timerAtMarker (p : Position) (f : Forming) (resyncing : Bool) : Timer :=
  { position := some { p with number := 0, turnCount := if resyncing then 0 else p.turnCount }
    sync := if f.lengthChanged then .unsynced else .synced
    forming := some
      { f with
        numberFormed := true
        boundaryDue := if f.numberFormed = true ∧ p.number = 0 then f.boundaryDue else true
        enteredRun := f.enteredRun || resyncing
        frameTaken := true } }

/-- The marker of the crossing being formed (R23, R30, R32). It leaves the boundary due to a later row: a Start taken before that row
finds the part Synced and begins its run at that boundary (R29), which is the model's choice (log 28). -/
def takeMarker (s : State) : State :=
  match s.timer.position, s.timer.forming with
  | some p, some f =>
    let resyncing := decide (s.run.state = .resyncing)
    let t := s.setTimer (timerAtMarker p f resyncing)
    let u := if resyncing then beginRun t else t
    if markerSlips s (expectedNumber s p f) then loseRun (report .turnSlip u) else u
  | _, _ => s

/-! ### Commands -/

/-- TURN_BOUNDARY: the boundary of the crossing being formed, or of the next one; a crossing that is no boundary leaves the state
as it is (R22; log 3). -/
def execTurnBoundary (s : State) : Host.Outcome State Fault Refusal :=
  let t := formNumber (openCrossing s)
  .next (if boundaryDue t then takeBoundary t else s)

/-- TURN_MARKER (R23). -/
def execTurnMarker (s : State) : Host.Outcome State Fault Refusal :=
  .next (if frameTaken s then s else takeMarker (openCrossing s))

/-- A record reaches age 256 at the next crossing start (R178). -/
def ageOutDue (s : State) : Bool :=
  !isForming s && decide (agedFires s.injection.fires (nextPosition s.timer.position).index ≠ s.injection.fires)

/-- INJECTION_RECORD_AGE_OUT: the ageing of the next crossing start (R178). -/
def execInjectionRecordAgeOut (s : State) : Host.Outcome State Fault Refusal :=
  .next (if ageOutDue s then openCrossing s else s)

/-- RECONSTRUCTION_BEGIN: the look of the engine at the crossing being formed, or at the next one, with the begin it leads to (R88,
R91; log 29). -/
def execReconstructionBegin (s : State) : Host.Outcome State Fault Refusal :=
  let t := enterCrossing s
  .next (if looksForEvent t then beginReconstruction t else s)

/-- The completion of the current event comes in the crossing being formed or in the next one (R96). -/
def mayCompleteNow (s : State) : Bool :=
  match s.recon with
  | some b => b.mayComplete && !reconstructionLooked s
  | none => false

/-- RECONSTRUCTION_COMPLETE: after the start of crossing b + 16 when that has been taken, before it otherwise (R96). -/
def execReconstructionComplete (s : State) : Host.Outcome State Fault Refusal :=
  .next
    (if completionDue s then completeEvent s
     else if mayCompleteNow s then completeEvent (openCrossing s)
     else s)

/-- DRAIN_COMPLETE (R34). -/
def execDrainComplete (s : State) : Host.Outcome State Fault Refusal := .next (drain s)

end Sys2Proof.Machine
end

