-- ==== Sys2Proof/Machine/Accepts.lean ====
section
/-! DEFINITION. Accept Queue, Capture Engine and Window Store: intake, diagnostic accepts, capture begin and column copy (05). -/

namespace Sys2Proof.Machine

/-! ### Intake (R71 to R75) -/

/-- The Raw prescale forces an event number (R74). -/
def prescaleForces (s : State) (event : BitVec 24) : Bool :=
  decide (rawPrescale s ≠ 0 ∧ event.toNat % rawPrescale s = 0)

/-- A fire matches the accept crossing `c`: c − i lies in d − 1 .. d + 1 (R75). -/
def fireMatches (s : State) (c : Int) (f : Fire) : Bool :=
  decide (injectionDelay s - 1 ≤ c - f.index ∧ c - f.index ≤ injectionDelay s + 1)

/-- The later of two fires; of two with one index the second. -/
def laterFire (best : Option Fire) (f : Fire) : Option Fire :=
  match best with
  | none => some f
  | some b => if b.index ≤ f.index then some f else some b

/-- The matching fire with the largest index (R75). -/
def matchingFire (s : State) (c : Int) : Option Fire :=
  (s.injection.fires.filter (fireMatches s c)).foldl laterFire none

/-- The test match of an accept crossing (R75). -/
def testMatchAt (s : State) (c : Int) : Option TestMatch :=
  (matchingFire s c).map fun f => ⟨f.amplitude, c - f.index - injectionDelay s⟩

/-- The accept crossing of an accept taken at crossing `n` (R71). -/
def acceptCrossing (s : State) (n : Nat) : Int := (n : Int) - (latency s : Int)

/-- The entry of an accept taken at crossing `n` (R71, R72). -/
def acceptEntry (s : State) (n : Nat) : Entry where
  event := s.queue.eventCounter
  epoch := s.run.epoch
  accept := some (acceptCrossing s n)
  number := (readColumn s (acceptCrossing s n)).number
  turnLow := (readColumn s (acceptCrossing s n)).turnLow
  intake := some n
  rawForced := prescaleForces s s.queue.eventCounter
  diagnostic := false
  testMatch := testMatchAt s (acceptCrossing s n)

/-- One more discarded accept (R27). -/
def countDiscarded (s : State) : State :=
  s.setRun { s.run with discarded := satInc Config.countLimit s.run.discarded }

/-- One more ignored accept (R27). -/
def countIgnored (s : State) : State := s.setRun { s.run with ignored := satInc Config.countLimit s.run.ignored }

/-- The intake of an accept at crossing `n`: an entry, or AcceptOverflow with 16 entries held (R27, R71, R73). -/
def intakeAccept (n : Nat) (s : State) : State :=
  if s.queue.entries.length < Config.queueDepth then
    s.setQueue
      { s.queue with
        entries := s.queue.entries ++ [acceptEntry s n]
        eventCounter := s.queue.eventCounter + 1 }
  else loseRun (report .acceptOverflow (countDiscarded s))

/-- The fate of an accept by run state (R27). -/
def takeAccept (s : State) : State :=
  match s.run.state with
  | .run => match currentIndex s with
    | some n => intakeAccept n s
    | none => s
  | .idle => countIgnored s
  | .starting => countIgnored s
  | .stopping => countIgnored s
  | .lost => countDiscarded s
  | .resyncing => countDiscarded s

/-- ACCEPT (R27, R71). -/
def execAccept (s : State) : Host.Outcome State Fault Refusal := .next (takeFrame takeAccept s)

/-! ### Diagnostic accepts (R79) -/

/-- The accept crossing of a diagnostic accept of age `a`, when there is a write head (R79). -/
def diagnosticCrossing (s : State) (a : Nat) : Option Int := s.pipeline.head.map fun h => (h : Int) - (a : Int)

/-- The column an entry reads its crossing number and turn low from (R72). -/
def columnOfAccept (s : State) (c : Option Int) : Column :=
  match c with
  | some x => readColumn s x
  | none => Column.empty

/-- The entry of a diagnostic accept of age `a` (R79). -/
def diagnosticEntry (s : State) (a : Nat) : Entry where
  event := s.queue.diagnosticCounter
  epoch := s.run.epoch
  accept := diagnosticCrossing s a
  number := (columnOfAccept s (diagnosticCrossing s a)).number
  turnLow := (columnOfAccept s (diagnosticCrossing s a)).turnLow
  intake := currentIndex s
  rawForced := prescaleForces s s.queue.diagnosticCounter
  diagnostic := true
  testMatch := (diagnosticCrossing s a).bind fun c => testMatchAt s c

/-- The answer to a DiagnosticAccept of age `a`: the first row of R79 that applies. -/
def diagnosticReply (s : State) (a : Nat) : Reply :=
  if s.pipeline.frozen = false then .refused .notFrozen
  else if a < windowPost s ∨ Config.greatestAge < a + windowPre s then .refused .range
  else if Config.queueDepth ≤ s.queue.entries.length then .refused .full
  else .done []

/-- A DiagnosticAccept of age `a`: one entry with a number of the diagnostic counter, or nothing (R79). -/
def diagnosticIntake (a : Nat) (s : State) : State :=
  if diagnosticReply s a = .done [] then
    s.setQueue
      { s.queue with
        entries := s.queue.entries ++ [diagnosticEntry s a]
        diagnosticCounter := s.queue.diagnosticCounter + 1 }
  else s

/-! ### Capture begin (R80 to R82) -/

/-- The Capture Engine has already begun or completed a capture at the crossing start being formed (R80, R83). -/
def captureActed (s : State) : Bool :=
  match s.timer.forming with
  | some f => f.captureActed
  | none => false

/-- The Capture Engine has acted at this crossing start. -/
def markCapture (s : State) : State := updateForming (fun f => { f with captureActed := true }) s

/-- An entry was taken before crossing `n`; an entry made before the first crossing start was (R80; log 12). -/
def takenBefore (n : Nat) (e : Entry) : Bool :=
  match e.intake with
  | some i => decide (i < n)
  | none => true

/-- What a begin at the current crossing would take: the crossing, the oldest entry, the entries behind it and the lowest-numbered
Free slot, when the conditions of R80 hold. -/
def captureCandidate (s : State) : Option (Nat × Entry × List Entry × Fin 4) :=
  if s.capture.isNone ∧ captureActed s = false then
    match currentIndex s, s.queue.entries, lowestFree s.windows with
    | some n, e :: rest, some slot => if takenBefore n e then some (n, e, rest, slot) else none
    | _, _, _ => none
  else none

/-- The first column of the entry's window is more than 255 crossings old at crossing `n` (R82); never for a diagnostic entry
(R85). -/
def windowLate (s : State) (e : Entry) (n : Nat) : Bool :=
  match e.accept with
  | some c => !e.diagnostic && decide ((Config.greatestAge : Int) < (n : Int) - (c - (windowPre s : Int)))
  | none => false

/-- The slot a begin claims: the entry's fields and the active geometry; Full at once when the window is Late (R80 to R82). -/
def claimedWindow (s : State) (e : Entry) (slot : Fin 4) (late : Bool) : Window where
  slot := slot
  state := if late then .full else .filling
  event := e.event
  epoch := e.epoch
  accept := e.accept
  number := e.number
  turnLow := e.turnLow
  late := late
  rawForced := e.rawForced
  diagnostic := e.diagnostic
  testMatch := e.testMatch
  pre := windowPre s
  post := windowPost s
  tapStart := windowTapStart s
  columns := []
  present := Oct.all false

/-- The capture begin of a crossing start, when its conditions hold (R80, R82). -/
def beginCapture (s : State) : State :=
  match captureCandidate s with
  | none => s
  | some (n, e, rest, slot) =>
    let late := windowLate s e n
    let t := s.setQueue { s.queue with entries := rest }
    let u := t.setWindows (s.windows ++ [claimedWindow s e slot late])
    let v := if late then u else u.setCapture (some ⟨slot, 0⟩)
    reportIf late .lateCapture (markCapture v)

/-! ### Column copy (R83, R84) -/

/-- The column of window position `k` (R83). -/
def windowColumn (s : State) (w : Window) (k : Nat) : Column :=
  match w.accept with
  | some c => readColumn s (c - (w.pre : Int) + (k : Int))
  | none => Column.empty

/-- The slot after position `k` is copied; the present flags come with the accept crossing (R83, R84), and the last column makes
it Full (R83). -/
def Window.withColumn (w : Window) (k : Nat) (c : Column) (last : Bool) : Window :=
  { w with
    columns := w.columns ++ [c]
    present := if k = w.pre then presentFlags c else w.present
    state := if last then .full else w.state }

/-- Position `k` is the last of the window. -/
def Window.isLast (w : Window) (k : Nat) : Bool := decide (w.length ≤ k + 1)

/-- The column copy of a crossing start, when the engine is Capturing (R83). -/
def copyColumn (s : State) : State :=
  match s.capture with
  | none => s
  | some cap =>
    match findWindow s.windows cap.slot with
    | none => s
    | some w =>
      let column := windowColumn s w cap.position
      let last := w.isLast cap.position
      let t := s.setWindows
        (updateWindow s.windows cap.slot fun x => x.withColumn cap.position column last)
      t.setCapture (if last then none else some { cap with position := cap.position + 1 })

/-- The capture in progress lacks its last column alone, and the engine has not acted at this crossing start (R83). -/
def lastColumnNext (s : State) : Bool :=
  match s.capture with
  | none => false
  | some cap =>
    match findWindow s.windows cap.slot with
    | none => false
    | some w => w.isLast cap.position && !captureActed s

/-- CAPTURE_BEGIN: the begin of the crossing being formed, or of the next one (R80). -/
def execCaptureBegin (s : State) : Host.Outcome State Fault Refusal :=
  let t := enterCrossing s
  .next (if (captureCandidate t).isSome then beginCapture t else s)

/-- CAPTURE_COMPLETE: the copy of the last column at the crossing start being formed, or at the next one (R83). -/
def execCaptureComplete (s : State) : Host.Outcome State Fault Refusal :=
  let t := enterCrossing s
  .next (if lastColumnNext t then markCapture (copyColumn t) else s)

end Sys2Proof.Machine
end

