-- ==== Sys2Proof/Machine/RunControl.lean ====
section
/-! DEFINITION. The Run Controller: the frame commands None, Resync and Test Fire, failing frames, Start, Stop, Restart and
power-on reset (02, sections 2.3 to 2.8; 03, section 3.2). -/

namespace Sys2Proof.Machine

/-! ### Frame commands (R41, R42) -/

/-- NONE: a good frame without a command has no effect (R42). -/
def execNone (s : State) : Host.Outcome State Fault Refusal := .next s

/-- TEST_FIRE (R177). -/
def execTestFire (s : State) : Host.Outcome State Fault Refusal := .next (takeFrame fireTest s)

/-- The numbered work not yet turned into a finished fragment is discarded (R31). -/
def discardWork (s : State) : State :=
  let discards := (s.queue.entries.filter fun e => !e.diagnostic).length
  let t := s.setRun { s.run with discarded := satAdd Config.countLimit s.run.discarded discards }
  let u := t.setQueue { t.queue with entries := [] }
  (abandonEvent (u.setCapture none)).setWindows []

/-- Resync: in Run or Lost the run state becomes Resyncing and the numbered work is discarded; otherwise it is ignored (R31). -/
def takeResync (s : State) : State :=
  if s.run.state = .run ∨ s.run.state = .lost then discardWork (changeRunState .resyncing s) else s

/-- RESYNC (R31). -/
def execResync (s : State) : Host.Outcome State Fault Refusal := .next (takeFrame takeResync s)

/-- A failing frame reports LinkError; in Run the run becomes Lost (R30, R41). -/
def takeLinkError (s : State) : State := loseRun (report .linkError s)

/-- LINK_ERROR: the frame that fails carries no command, so its bits do not matter (R41). -/
def execLinkError (_frame : BitVec 4) (s : State) : Host.Outcome State Fault Refusal := .next (takeFrame takeLinkError s)

/-! ### Start and Stop (R28, R33) -/

/-- The answer to Start: the first condition of R28 that holds. -/
def startReply (s : State) : Reply :=
  if s.run.state ≠ .idle then .refused .notIdle
  else if s.timer.sync = .unsynced then .refused .notSynced
  else if s.pipeline.frozen = true then .refused .frozen
  else if s.settings.take = .scheduled then .refused .takePending
  else .done []

/-- Start: the run state becomes Starting, or nothing changes (R28). -/
def startRun (s : State) : State := if startReply s = .done [] then changeRunState .starting s else s

/-- Stop (R33); a chain already empty takes Stopping on to Idle at once (R34). -/
def stopRun (s : State) : State :=
  match s.run.state with
  | .idle => s
  | .starting => changeRunState .idle s
  | .run => drain (changeRunState .stopping s)
  | .lost => drain (changeRunState .stopping s)
  | .resyncing => drain (changeRunState .stopping s)
  | .stopping => s

/-! ### Restart and power-on reset (R35, R36) -/

/-- A fragment stream in progress goes on to its Aborted end word; any other response runs to its end (R143). -/
def Response.abort (r : Response) : Response :=
  match r with
  | .words left => .words left
  | .stream st => if st.ended then .stream st else .stream { st with aborted := true }

/-- The Readout Port at a Restart: overrun count and current response kept, a stream aborted (R143). -/
def Port.abort (p : Port) : Port := { p with response := p.response.map Response.abort, waits := false }

/-- The part after a Restart: every block in its starting state but for what Restart keeps (R35): the setting sets, touched flags
and generation (R168), the enables (R185), the payload words (R134), the delivered code pairs (R187), the ports (R143, R170) and
the outputs (log 14). -/
def restartPart (s : State) : State where
  timer := Timer.reset
  run := RunControl.reset
  trigger := { s.trigger with throttle := .off }
  inputs := { s.inputs with channels := Oct.all InputChannel.reset }
  pipeline := Pipeline.reset
  towers := Quad.all TowerHistory.absent
  queue := AcceptQueue.reset
  capture := none
  windows := []
  recon := none
  buffer := { s.buffer with ring := [], fillPoint := 0, wordsInUse := 0 }
  readout := s.readout.abort
  control := s.control
  settings := { s.settings with take := .none }
  tracker := Oct.all TrackerChannel.reset
  injection := { Injection.reset with charge := s.injection.charge }
  monitor := { s.monitor with flags := 0, counts := CauseCounts.zero }
  pending := s.pending

/-- POWER_ON_RESET: the state after power-on reset, with the commands still waiting (R36; log 18). -/
def execPowerOnReset (s : State) : Host.Outcome State Fault Refusal := .next (State.reset.setPending s.pending)

end Sys2Proof.Machine
end

