-- ==== Sys2Proof/Machine/Readout.lean ====
section
/-! DEFINITION. The Readout Port: request discipline, Fetch, Release, Status, the words it sends, and the end of a response on
either request link (08). -/

namespace Sys2Proof.Machine

/-! ### One request at a time (R137, R138) -/

/-- The number of a request code of the readout link (R148). -/
def fetchCode : Nat := 1
def releaseCode : Nat := 2
def statusRequestCode : Nat := 3

/-- A readout request with code `code`: refused and counted while the port is Responding, executed at once otherwise (R137,
R138), after what the last updates have left due (log 11). -/
def readoutRequest (code : Nat) (execute : State → State × Response) (s : State) : State :=
  if s.readout.response.isSome then report .requestOverrun (s.setReadout (s.readout.overrunBy code))
  else
    let u := settleRequest s
    let t := (execute u).1
    t.setReadout (t.readout.respond (isForming t) (execute u).2)

/-! ### Fetch (R130, R139, R140) -/

/-- The header of a fragment without payload, formed at execution (R129, R139). -/
def formedHeader (s : State) (d : Descriptor) : List Word := headerWords d (Oct.all false) 0 (attention s)

/-- The stream of a descriptor's fragment (R139, R140). -/
def streamOf (s : State) (d : Descriptor) : Stream :=
  match d.payload with
  | some p => ⟨d.epoch, d.event, p.length, 0, .stored p.start, false, false⟩
  | none => ⟨d.epoch, d.event, (formedHeader s d).length, 0, .formed (formedHeader s d), false, false⟩

/-- What Fetch does to the Event Buffer, and its response (R130, R139). -/
def fetchOldest (s : State) : State × Response :=
  match s.buffer.ring with
  | [] => (s, .words [emptyWord])
  | d :: rest =>
    match d.state with
    | .building => (s, .words [notReadyWord d.epoch d.event])
    | .ready => (s.setBuffer { s.buffer with ring := { d with state := .sent } :: rest }, .stream (streamOf s d))
    | .sent => (s, .stream (streamOf s d))

/-- FETCH (R139). -/
def execFetch (s : State) : Host.Outcome State Fault Refusal := .next (readoutRequest fetchCode fetchOldest s)

/-! ### Release (R122, R141) -/

/-- The length of a payload reference, 0 without one. -/
def payloadLength (d : Descriptor) : Nat :=
  match d.payload with
  | some p => p.length
  | none => 0

/-- The Event Buffer without its oldest descriptor `d` and its payload (R122). -/
def EventBuffer.free (b : EventBuffer) (d : Descriptor) (rest : List Descriptor) : EventBuffer :=
  { b with ring := rest, wordsInUse := b.wordsInUse - payloadLength d }

/-- What Release does to the Event Buffer, and its response: the first row of R141 that applies. -/
def releaseOldest (epoch : BitVec 4) (event : BitVec 24) (s : State) : State × Response :=
  match s.buffer.ring with
  | [] => (s, .words [emptyWord])
  | d :: rest =>
    if d.state ≠ .sent then (s, .words [readoutRefusedWord .notSent releaseCode])
    else if d.epoch ≠ epoch ∨ d.event ≠ event then (s, .words [readoutRefusedWord .mismatch releaseCode])
    else (s.setBuffer (s.buffer.free d rest), .words [releasedWord epoch event])

/-- RELEASE (R141). -/
def execRelease (epoch : BitVec 4) (event : BitVec 24) (s : State) : Host.Outcome State Fault Refusal :=
  .next (readoutRequest releaseCode (releaseOldest epoch event) s)

/-! ### Status (R142, R149) -/

/-- Status word 0. -/
def statusWord0 (s : State) : Word :=
  13#4 ++ (BitVec.ofNat 3 s.run.state.code ++ (flagBit (decide (s.timer.sync = .synced)) ++
    (flagBit (decide (s.trigger.throttle = .on)) ++ (flagBit (attention s) ++
      (BitVec.ofNat 7 s.buffer.ring.length ++ (BitVec.ofNat 14 (wordsFree s.buffer) ++ 0#1))))))

/-- Status word 1: the oldest descriptor, zero when the ring is empty. -/
def statusWord1 (s : State) : Word :=
  match s.buffer.ring with
  | [] => 0
  | d :: _ => 1#1 ++ (0#3 ++ (d.epoch ++ d.event))

/-- Status word 2. -/
def statusWord2 (s : State) : Word := s.run.epoch ++ (0#4 ++ s.queue.eventCounter)

/-- The readout view (R142). -/
def statusView (s : State) : State × Response := (s, .words [statusWord0 s, statusWord1 s, statusWord2 s])

/-- STATUS (R142). -/
def execStatus (s : State) : Host.Outcome State Fault Refusal := .next (readoutRequest statusRequestCode statusView s)

/-- READOUT_UNASSIGNED_REQUEST: Refused with RANGE and the code received (R137). -/
def execReadoutUnassigned (code : BitVec 4) (s : State) : Host.Outcome State Fault Refusal :=
  .next (readoutRequest code.toNat (fun t => (t, .words [readoutRefusedWord .range code.toNat])) s)

/-! ### Words sent (R136, R140, R143, R154) -/

/-- The fragment word at the stream position (R140). -/
def streamWord (b : EventBuffer) (st : Stream) : Word :=
  match st.source with
  | .stored start => payloadWord b (start + st.position)
  | .formed header => header.getD st.position 0

/-- One crossing period of a stream: a fragment word, or the end word, Aborted or after the last fragment word (R140, R143). -/
def sendStream (b : EventBuffer) (st : Stream) : Word × Stream :=
  if st.aborted = false ∧ st.position < st.length then (streamWord b st, { st with position := st.position + 1 })
  else (endWord st, { st with ended := true })

/-- The word a response sends in the next crossing period, with the response after it; none when every word has been sent. -/
def sendResponse (b : EventBuffer) (r : Response) : Option Word × Response :=
  match r with
  | .words [] => (none, .words [])
  | .words (w :: rest) => (some w, .words rest)
  | .stream st => if st.ended then (none, .stream st) else (some (sendStream b st).1, .stream (sendStream b st).2)

/-- One crossing start of a port: a word is sent when the port is Responding, except when the response waits for the next one
(R136; log 13). -/
def Port.send (b : EventBuffer) (p : Port) : Port :=
  match p.response with
  | none => { p with waits := false, out := none }
  | some r =>
    if p.waits then { p with waits := false, out := none }
    else { p with response := some (sendResponse b r).2, out := (sendResponse b r).1 }

/-- The words both request links send at a crossing start. -/
def sendWords (s : State) : State :=
  (s.setReadout (s.readout.send s.buffer)).setControl (s.control.send s.buffer)

/-! ### The end of a response (R136, R138, R169) -/

/-- The port of a request link. -/
def portOf (s : State) (l : RequestLink) : Port :=
  match l with
  | .readout => s.readout
  | .control => s.control

/-- The end of a response at a crossing start: Idle, or a Busy response (R138, R169). -/
def endResponse (l : RequestLink) (s : State) : State :=
  if (portOf s l).endDue then
    match l with
    | .readout => s.setReadout (s.readout.finish readoutBusyWord)
    | .control => s.setControl (s.control.finish controlBusyWord)
  else s

/-- RESPONSE_END: the end of a response whose last word has been sent, at the crossing start being formed or at the next one
(R136). -/
def execResponseEnd (l : RequestLink) (s : State) : Host.Outcome State Fault Refusal :=
  .next (if (portOf s l).endDue then endResponse l (openCrossing s) else s)

end Sys2Proof.Machine
end

