-- ==== Sys2Proof/Machine/Crossing.lean ====
section
/-! DEFINITION. CROSSING_START: the crossing start as a whole (02 to 10; log 1, log 2). -/

namespace Sys2Proof.Machine

/-- The column of the crossing with everything that reads it at once: gain selection, fault counts, tower sums, TowerInvalid and
pedestal accumulation (R5, R11, R14, R54, R61, R173). -/
def sampleCrossing (pairs : Oct CodePair) (s : State) : State :=
  accumulatePedestals pairs (reportTowers (updateTowers (writeColumn pairs (deliverPairs pairs s))))

/-- The event path at a crossing start: capture begin, reconstruction begin, column copy, and one crossing of the current event
(R80, R83, R91, R95; log 2). -/
def processEvents (s : State) : State := advanceReconstruction (copyColumn (beginReconstruction (beginCapture s)))

/-- The crossing being formed is closed. -/
def closeCrossing (s : State) : State := s.setTimer { s.timer with forming := none }

/-- The crossing start: the crossing is entered, the responses that are over end, the column is written, the event path advances,
one word goes out on each request link, and the uplink frame is sent, after the drain of a chain that has become empty (R21, R34,
R43). -/
def startCrossing (pairs : Oct CodePair) (s : State) : State :=
  let t := endResponse .control (endResponse .readout (enterCrossing s))
  closeCrossing (sendUplink (drain (sendWords (processEvents (sampleCrossing pairs t)))))

/-- CROSSING_START (R21). -/
def execCrossingStart (pairs : Oct CodePair) (s : State) : Host.Outcome State Fault Refusal :=
  .next (startCrossing pairs s)

end Sys2Proof.Machine
end

