-- ==== Sys2Proof/Machine/ControlPort.lean ====
section
/-! DEFINITION. The Control Port: request discipline, and the requests of the Settings Store, the Run Controller, the Fault Monitor
and the Injection Generator (09, 11). -/

namespace Sys2Proof.Machine

/-- A control request with code `code`: refused and counted while the port is Responding, executed at once otherwise (R169), after
what the last updates have left due (log 11). -/
def controlRequest (code : Nat) (execute : State → State × Reply) (s : State) : State :=
  if s.control.response.isSome then report .requestOverrun (s.setControl (s.control.overrunBy code))
  else
    let u := settleRequest s
    let t := (execute u).1
    t.setControl (t.control.respond (isForming t) (.words ((execute u).2.words code)))

/-- A request that answers from the state and changes nothing else. -/
def answer (reply : State → Reply) (s : State) : State × Reply := (s, reply s)

/-- A request with an effect that is answered Done with no data. -/
def actDone (effect : State → State) (s : State) : State × Reply := (effect s, .done [])

/-! ### Settings Store (R158 to R164) -/

/-- WriteItem (R158). -/
def writeItemEffect (number index : Nat) (value : Word) (s : State) : State × Reply :=
  (s.setSettings (writeItemValue number index value s.settings).1, (writeItemValue number index value s.settings).2)

/-- WRITE_ITEM (R158, R159). -/
def execWriteItem (item : BitVec 11) (index : BitVec 16) (value : Word) (s : State) : Host.Outcome State Fault Refusal :=
  .next (controlRequest 1 (writeItemEffect item.toNat index.toNat value) s)

/-- READ_ITEM (R160). -/
def execReadItem (item : BitVec 11) (index : BitVec 3) (wantsPending : Bool) (s : State) :
    Host.Outcome State Fault Refusal :=
  .next (controlRequest 2 (answer fun t => readItemReply item.toNat index.toNat wantsPending t.settings) s)

/-- TAKE (R162). -/
def execTake (s : State) : Host.Outcome State Fault Refusal :=
  .next (controlRequest 3 (fun t => (scheduleTake t, takeReply t)) s)

/-- CANCEL_TAKE (R163). -/
def execCancelTake (s : State) : Host.Outcome State Fault Refusal := .next (controlRequest 4 (actDone cancelScheduled) s)

/-- READ_TAKE_STATE (R164). -/
def execReadTakeState (s : State) : Host.Outcome State Fault Refusal :=
  .next (controlRequest 5 (answer fun t => .done (takeStateWords t.settings)) s)

/-! ### Run Controller (R28, R33, R35) -/

/-- START (R28). Taken between TURN_MARKER and the boundary of its crossing, it finds the timer as the marker left it, and the run
begins at that boundary, which is the model's choice (log 28). -/
def execStart (s : State) : Host.Outcome State Fault Refusal :=
  .next (controlRequest 6 (fun t => (startRun t, startReply t)) s)

/-- STOP (R33). -/
def execStop (s : State) : Host.Outcome State Fault Refusal := .next (controlRequest 7 (actDone stopRun) s)

/-- RESTART: the Done response is formed after the Restart has taken effect (R35, R170). -/
def execRestart (s : State) : Host.Outcome State Fault Refusal := .next (controlRequest 8 (actDone restartPart) s)

/-! ### Input Selector (R16) -/

/-- Revive of a channel argument, or RANGE (R16, R152). Taken between the rows of a crossing being formed, it governs the column of
that crossing, and not the charge of a Test Fire taken before it, which is the model's choice (log 28). -/
def reviveEffect (channel : BitVec 16) (s : State) : State × Reply :=
  match channelArgument channel with
  | some ch => (reviveChannel ch s, .done [])
  | none => (s, .refused .range)

/-- REVIVE (R16). -/
def execRevive (channel : BitVec 16) (s : State) : Host.Outcome State Fault Refusal :=
  .next (controlRequest 9 (reviveEffect channel) s)

/-! ### Fault Monitor (R183, R184) -/

/-- The code of a descriptor state in the control view (R183, R189). -/
def DescriptorState.code (x : DescriptorState) : Nat :=
  match x with
  | .building => 0
  | .ready => 1
  | .sent => 2

/-- A cause set as a word. -/
def causeWord (x : BitVec 10) : Word := x.setWidth 32

/-- The oldest descriptor, if there is one. -/
def oldestDescriptor (s : State) : Option Descriptor := s.buffer.ring.head?

/-- The 35 words of the control view (R183). -/
def controlView (s : State) : List Word :=
  [causeWord s.monitor.flags, causeWord s.monitor.enables]
    ++ causes.map (fun c => numberWord (s.monitor.counts.get c))
    ++ [flagWord (attention s),
        numberWord s.run.state.code,
        flagWord (decide (s.timer.sync = .synced)),
        flagWord s.pipeline.frozen,
        flagWord (decide (s.trigger.throttle = .on)),
        optionWord (fun p : Position => numberWord p.number) s.timer.position,
        optionWord (fun p : Position => p.turnCount.setWidth 32) s.timer.position,
        s.run.epoch.setWidth 32,
        s.queue.eventCounter.setWidth 32,
        s.queue.diagnosticCounter.setWidth 32,
        numberWord s.run.ignored,
        numberWord s.run.discarded,
        s.settings.generation.setWidth 32,
        (octBits (s.inputs.channels.map fun c => c.killed)).setWidth 32,
        numberWord s.queue.entries.length,
        numberWord s.buffer.ring.length,
        numberWord (wordsFree s.buffer),
        numberWord s.buffer.fillPoint,
        optionWord (fun d : Descriptor => d.event.setWidth 32) (oldestDescriptor s),
        optionWord (fun d : Descriptor => d.epoch.setWidth 32) (oldestDescriptor s),
        optionWord (fun d : Descriptor => numberWord d.state.code) (oldestDescriptor s),
        numberWord s.injection.scan.code,
        numberWord (currentAmplitude s)]

/-- READ_FAULTS (R183). -/
def execReadFaults (s : State) : Host.Outcome State Fault Refusal :=
  .next (controlRequest 10 (answer fun t => .done (controlView t)) s)

/-- The ten causes a cause set names; bits 15 to 10 are ignored (R151, R184). -/
def causeSet (x : BitVec 16) : BitVec 10 := x.setWidth 10

/-- ClearCauses: the named flags are cleared (R184). -/
def clearCauses (x : BitVec 10) (s : State) : State :=
  s.setMonitor { s.monitor with flags := s.monitor.flags &&& ~~~x }

/-- SetEnables: the enables become the set (R184). -/
def setEnables (x : BitVec 10) (s : State) : State := s.setMonitor { s.monitor with enables := x }

/-- ClearCounts: all ten counts become 0 (R184). -/
def clearCounts (s : State) : State := s.setMonitor { s.monitor with counts := CauseCounts.zero }

/-- CLEAR_CAUSES (R184). -/
def execClearCauses (x : BitVec 16) (s : State) : Host.Outcome State Fault Refusal :=
  .next (controlRequest 11 (actDone (clearCauses (causeSet x))) s)

/-- SET_ENABLES (R184). -/
def execSetEnables (x : BitVec 16) (s : State) : Host.Outcome State Fault Refusal :=
  .next (controlRequest 12 (actDone (setEnables (causeSet x))) s)

/-- CLEAR_COUNTS (R184). -/
def execClearCounts (s : State) : Host.Outcome State Fault Refusal := .next (controlRequest 13 (actDone clearCounts) s)

/-! ### Injection Generator (R179) -/

/-- SCAN_START (R179). -/
def execScanStart (s : State) : Host.Outcome State Fault Refusal := .next (controlRequest 14 (actDone startScan) s)

/-- SCAN_STOP (R179). -/
def execScanStop (s : State) : Host.Outcome State Fault Refusal := .next (controlRequest 15 (actDone stopScan) s)

/-- CONTROL_UNASSIGNED_REQUEST: Refused with RANGE (R152). -/
def execControlUnassigned (code : BitVec 5) (s : State) : Host.Outcome State Fault Refusal :=
  .next (controlRequest code.toNat (answer fun _ => .refused .range) s)

end Sys2Proof.Machine
end

