-- ==== Sys2Proof/Machine/Diagnostics.lean ====
section
/-! DEFINITION. Diagnostic access: Freeze, Unfreeze, WriteCell, DiagnosticAccept, and the diagnostic reads (11, section 11.3). -/

namespace Sys2Proof.Machine

/-! ### Freeze and Unfreeze (R17, R19, R67, R186) -/

/-- The answer to Freeze (R186). -/
def freezeReply (s : State) : Reply := if s.run.state = .idle then .done [] else .refused .notIdle

/-- Freeze: in Idle the frozen flag is set (R17, R186). -/
def freezePipeline (s : State) : State :=
  if s.run.state = .idle then s.setPipeline { s.pipeline with frozen := true } else s

/-- FREEZE (R186). -/
def execFreeze (s : State) : Host.Outcome State Fault Refusal :=
  .next (controlRequest 16 (fun t => (freezePipeline t, freezeReply t)) s)

/-- Unfreeze: the frozen flag and the tower histories are cleared when the pipeline is frozen (R19, R67, R186). -/
def unfreezePipeline (s : State) : State :=
  if s.pipeline.frozen then
    (s.setPipeline { s.pipeline with frozen := false }).setTowers (Quad.all TowerHistory.absent)
  else s

/-- UNFREEZE (R186). -/
def execUnfreeze (s : State) : Host.Outcome State Fault Refusal :=
  .next (controlRequest 17 (actDone unfreezePipeline) s)

/-! ### Reads of the inputs and the pipeline (R187) -/

/-- The four words of PeekInput; absent before the first crossing start (R187). -/
def peekWords (s : State) (ch : Channel) : List Word :=
  match s.inputs.pairs with
  | none => [absentWord, absentWord, absentWord, absentWord]
  | some pairs =>
    let p := pairs.get ch
    [p.hg.setWidth 32, flagWord p.hgFault, p.lg.setWidth 32, flagWord p.lgFault]

/-- The answer to PeekInput (R152, R187). -/
def peekReply (channel : BitVec 16) (s : State) : Reply :=
  match channelArgument channel with
  | some ch => .done (peekWords s ch)
  | none => .refused .range

/-- PEEK_INPUT (R187). -/
def execPeekInput (channel : BitVec 16) (s : State) : Host.Outcome State Fault Refusal :=
  .next (controlRequest 18 (answer (peekReply channel)) s)

/-- The answer to ReadCell (R152, R187). -/
def readCellReply (age : BitVec 11) (channel : BitVec 16) (s : State) : Reply :=
  match ageArgument age, channelArgument channel with
  | some a, some ch => .done [cellWord ((columnAtAge s a).cells.get ch)]
  | _, _ => .refused .range

/-- READ_CELL (R187). -/
def execReadCell (age : BitVec 11) (channel : BitVec 16) (s : State) : Host.Outcome State Fault Refusal :=
  .next (controlRequest 19 (answer (readCellReply age channel)) s)

/-- The answer to ReadColumn (R152, R187). -/
def readColumnReply (age : BitVec 11) (s : State) : Reply :=
  match ageArgument age with
  | some a => .done (columnWords (columnAtAge s a))
  | none => .refused .range

/-- READ_COLUMN (R187). -/
def execReadColumn (age : BitVec 11) (s : State) : Host.Outcome State Fault Refusal :=
  .next (controlRequest 21 (answer (readColumnReply age)) s)

/-! ### WriteCell (R18, R188) -/

/-- The slot WriteCell writes for age `a`: of crossing h − a, or of crossing 0 − a without a write head (R18, R188). -/
def writeCellSlot (s : State) (a : Nat) : Nat :=
  match s.pipeline.head with
  | some h => columnSlot ((h : Int) - (a : Int))
  | none => columnSlot (0 - (a : Int))

/-- One record of a column slot replaced, its metadata and index unchanged (R188). -/
def StoredColumn.withCell (c : StoredColumn) (ch : Channel) (x : Cell) : StoredColumn :=
  { c with column := { c.column with cells := c.column.cells.set ch x } }

/-- A record written into the frozen pipeline (R188). -/
def writeCell (a : Nat) (ch : Channel) (x : Cell) (s : State) : State :=
  let slot := writeCellSlot s a
  s.setPipeline
    { s.pipeline with
      columns := Memory.write (fun _ => StoredColumn.empty) s.pipeline.columns slot
        ((storedColumn s.pipeline slot).withCell ch x) }

/-- WriteCell: the first row of R188 that applies. -/
def writeCellEffect (age : BitVec 11) (channel : BitVec 16) (cell : Word) (s : State) : State × Reply :=
  if s.pipeline.frozen = false then (s, .refused .notFrozen)
  else
    match ageArgument age, channelArgument channel, decodeCellWord cell with
    | some a, some ch, some x => (writeCell a ch x s, .done [])
    | _, _, _ => (s, .refused .range)

/-- WRITE_CELL (R188). -/
def execWriteCell (age : BitVec 11) (channel : BitVec 16) (cell : Word) (s : State) : Host.Outcome State Fault Refusal :=
  .next (controlRequest 20 (writeCellEffect age channel cell) s)

/-! ### The remaining reads (R189) -/

/-- The code of a slot state; 0 is Free (R189). -/
def WindowState.code (x : WindowState) : Nat :=
  match x with
  | .filling => 1
  | .full => 2
  | .inUse => 3

/-- The flags word of a slot: Late, RawForced, Diagnostic as bits 0 to 2 (R189). -/
def windowFlags (w : Window) : Word :=
  0#29 ++ (flagBit w.diagnostic ++ (flagBit w.rawForced ++ flagBit w.late))

/-- The words of a slot (R189). -/
def windowWords (o : Option Window) : List Word :=
  match o with
  | none => [numberWord 0]
  | some w =>
    [numberWord w.state.code, w.event.setWidth 32, w.epoch.setWidth 32, w.number.setWidth 32, w.turnLow.setWidth 32,
     windowFlags w,
     optionWord (fun m : TestMatch => numberWord m.amplitude) w.testMatch,
     optionWord (fun m : TestMatch => signedWord m.offset) w.testMatch,
     numberWord w.pre, numberWord w.post, numberWord w.tapStart, numberWord w.length,
     (octBits w.present).setWidth 32, numberWord w.columns.length]
      ++ w.columns.flatMap columnWords

/-- The answer to ReadWindowSlot (R152, R189). -/
def windowReply (slot : BitVec 11) (s : State) : Reply :=
  match slotArgument slot with
  | some n => .done (windowWords (findWindow s.windows n))
  | none => .refused .range

/-- READ_WINDOW_SLOT (R189). -/
def execReadWindowSlot (slot : BitVec 11) (s : State) : Host.Outcome State Fault Refusal :=
  .next (controlRequest 22 (answer (windowReply slot)) s)

/-- The flags word of a descriptor: Truncated, Late, Test, Diagnostic, RawForced as bits 0 to 4 (R189). -/
def descriptorFlags (d : Descriptor) : Word :=
  0#27 ++ (flagBit d.rawForced ++ (flagBit d.diagnostic ++ (flagBit d.testMatch.isSome ++ (flagBit d.late ++
    flagBit d.truncated))))

/-- The words of a descriptor (R189). -/
def descriptorWords (o : Option Descriptor) : List Word :=
  match o with
  | none => [numberWord 0]
  | some d =>
    [numberWord 1, d.event.setWidth 32, d.epoch.setWidth 32, d.number.setWidth 32, d.turnLow.setWidth 32,
     d.generation.setWidth 32, numberWord d.windowLength, numberWord d.state.code, descriptorFlags d,
     optionWord (fun m : TestMatch => numberWord m.amplitude) d.testMatch,
     optionWord (fun m : TestMatch => signedWord m.offset) d.testMatch,
     optionWord (fun p : PayloadReference => numberWord p.start) d.payload,
     optionWord (fun p : PayloadReference => numberWord p.length) d.payload]

/-- The answer to ReadDescriptor (R152, R189). -/
def descriptorReply (index : BitVec 11) (s : State) : Reply :=
  match descriptorArgument index with
  | some i => .done (descriptorWords s.buffer.ring[i]?)
  | none => .refused .range

/-- READ_DESCRIPTOR (R189). -/
def execReadDescriptor (index : BitVec 11) (s : State) : Host.Outcome State Fault Refusal :=
  .next (controlRequest 23 (answer (descriptorReply index)) s)

/-- A payload word lies within the words in use, which end before the fill point (R118, R189). -/
def wordInUse (b : EventBuffer) (i : Nat) : Bool :=
  decide ((i + b.wordsInUse + Config.payloadWords - b.fillPoint) % Config.payloadWords < b.wordsInUse)

/-- The answer to ReadPayload (R152, R189). -/
def payloadReply (word : BitVec 16) (s : State) : Reply :=
  match payloadArgument word with
  | some i => .done [payloadWord s.buffer i, flagWord (wordInUse s.buffer i)]
  | none => .refused .range

/-- READ_PAYLOAD (R189). -/
def execReadPayload (word : BitVec 16) (s : State) : Host.Outcome State Fault Refusal :=
  .next (controlRequest 24 (answer (payloadReply word)) s)

/-- The three words of an accumulator: sum, count, held candidate (R189). -/
def accumulatorWords (a : Accumulator) : List Word :=
  [numberWord a.sum, numberWord a.count, optionWord numberWord a.held]

/-- The answer to ReadTracker (R152, R189). -/
def trackerReply (channel : BitVec 16) (s : State) : Reply :=
  match channelArgument channel with
  | some ch => .done (accumulatorWords (s.tracker.get ch).hg ++ accumulatorWords (s.tracker.get ch).lg)
  | none => .refused .range

/-- READ_TRACKER (R189). -/
def execReadTracker (channel : BitVec 16) (s : State) : Host.Outcome State Fault Refusal :=
  .next (controlRequest 25 (answer (trackerReply channel)) s)

/-! ### DiagnosticAccept (R79) -/

/-- DIAGNOSTIC_ACCEPT (R79). -/
def execDiagnosticAccept (age : BitVec 11) (s : State) : Host.Outcome State Fault Refusal :=
  .next (controlRequest 26 (fun t => (diagnosticIntake age.toNat t, diagnosticReply t age.toNat)) s)

end Sys2Proof.Machine
end

