-- ==== Sys2Proof/Machine/Dispatch.lean ====
section
/-! DEFINITION. What each command does: one arm per constructor of Instr. -/

namespace Sys2Proof.Machine

/-- The effect of a command on everything but the queue of waiting commands. -/
def exec (i : Instr) (s : State) : Host.Outcome State Fault Refusal :=
  match i with
  | .powerOnReset => Sys2Proof.Machine.execPowerOnReset s
  | .crossingStart pairs => Sys2Proof.Machine.execCrossingStart pairs s
  | .turnBoundary => Sys2Proof.Machine.execTurnBoundary s
  | .noneCommand => Sys2Proof.Machine.execNone s
  | .accept => Sys2Proof.Machine.execAccept s
  | .turnMarker => Sys2Proof.Machine.execTurnMarker s
  | .testFire => Sys2Proof.Machine.execTestFire s
  | .resync => Sys2Proof.Machine.execResync s
  | .linkError frame => Sys2Proof.Machine.execLinkError frame s
  | .autoKill ch => Sys2Proof.Machine.execAutoKill ch s
  | .pedestalCandidate ch gain => Sys2Proof.Machine.execPedestalCandidate ch gain s
  | .injectionRecordAgeOut => Sys2Proof.Machine.execInjectionRecordAgeOut s
  | .scanStep => Sys2Proof.Machine.execScanStep s
  | .captureBegin => Sys2Proof.Machine.execCaptureBegin s
  | .captureComplete => Sys2Proof.Machine.execCaptureComplete s
  | .reconstructionBegin => Sys2Proof.Machine.execReconstructionBegin s
  | .reconstructionComplete => Sys2Proof.Machine.execReconstructionComplete s
  | .drainComplete => Sys2Proof.Machine.execDrainComplete s
  | .responseEnd link => Sys2Proof.Machine.execResponseEnd link s
  | .fetch => Sys2Proof.Machine.execFetch s
  | .release epoch event => Sys2Proof.Machine.execRelease epoch event s
  | .status => Sys2Proof.Machine.execStatus s
  | .readoutUnassigned code => Sys2Proof.Machine.execReadoutUnassigned code s
  | .writeItem item index value => Sys2Proof.Machine.execWriteItem item index value s
  | .readItem item index wantsPending => Sys2Proof.Machine.execReadItem item index wantsPending s
  | .take => Sys2Proof.Machine.execTake s
  | .cancelTake => Sys2Proof.Machine.execCancelTake s
  | .readTakeState => Sys2Proof.Machine.execReadTakeState s
  | .start => Sys2Proof.Machine.execStart s
  | .stop => Sys2Proof.Machine.execStop s
  | .restart => Sys2Proof.Machine.execRestart s
  | .revive channel => Sys2Proof.Machine.execRevive channel s
  | .readFaults => Sys2Proof.Machine.execReadFaults s
  | .clearCauses causes => Sys2Proof.Machine.execClearCauses causes s
  | .setEnables causes => Sys2Proof.Machine.execSetEnables causes s
  | .clearCounts => Sys2Proof.Machine.execClearCounts s
  | .scanStart => Sys2Proof.Machine.execScanStart s
  | .scanStop => Sys2Proof.Machine.execScanStop s
  | .freeze => Sys2Proof.Machine.execFreeze s
  | .unfreeze => Sys2Proof.Machine.execUnfreeze s
  | .peekInput channel => Sys2Proof.Machine.execPeekInput channel s
  | .readCell age channel => Sys2Proof.Machine.execReadCell age channel s
  | .writeCell age channel cell => Sys2Proof.Machine.execWriteCell age channel cell s
  | .readColumn age => Sys2Proof.Machine.execReadColumn age s
  | .readWindowSlot slot => Sys2Proof.Machine.execReadWindowSlot slot s
  | .readDescriptor index => Sys2Proof.Machine.execReadDescriptor index s
  | .readPayload word => Sys2Proof.Machine.execReadPayload word s
  | .readTracker channel => Sys2Proof.Machine.execReadTracker channel s
  | .diagnosticAccept age => Sys2Proof.Machine.execDiagnosticAccept age s
  | .controlUnassigned code => Sys2Proof.Machine.execControlUnassigned code s

end Sys2Proof.Machine
end

