-- ==== Sys2Proof/Safety.lean ====
section
/-! DEFINITION. The invariants of the part: what holds after reset and is kept by every step. -/

namespace Sys2Proof.Machine

/-! ### Words of the statements -/

/-- The crossing being formed has position `p`, its number formed and its boundary, if it is one, taken (log 1). -/
abbrev EnteredAt (s : State) (p : Position) (f : Forming) : Prop :=
  s.timer.position = some p ∧ s.timer.forming = some f ∧ f.numberFormed = true ∧ f.boundaryDue = false

/-- The chain is empty (R34). -/
abbrev ChainEmpty (s : State) : Prop :=
  s.queue.entries = [] ∧ s.capture = none ∧ s.windows = [] ∧ s.recon = none

/-- A scan step is still to be taken (log 11). -/
def Scan.stepIsDue (x : Scan) : Bool :=
  match x with
  | .off => false
  | .running _ _ stepDue => stepDue
  | .done _ => false

/-- The last updates have left nothing due: no kill, no candidate, no scan step, no drain (log 11). -/
abbrev NothingDue (s : State) : Prop :=
  (∀ ch : Channel, (s.inputs.channels.get ch).killDue = false) ∧
  (∀ ch : Channel, (s.tracker.get ch).hg.due = none ∧ (s.tracker.get ch).lg.due = none) ∧
  s.injection.scan.stepIsDue = false ∧
  ¬ (s.run.state = .stopping ∧ ChainEmpty s)

/-- The kills, candidates and scan step the last updates may have left due, as rows in the order of blocks (log 11). -/
def updateRows : List Instr :=
  channels.map Instr.autoKill
    ++ channels.flatMap (fun ch => [Instr.pedestalCandidate ch .high, Instr.pedestalCandidate ch .low])
    ++ [.scanStep]

/-- The event rows made before a request is executed (log 11). -/
def dueRows : List Instr := updateRows ++ [.drainComplete]

/-- The event rows made before a crossing is opened: the same, and a completion that is due (log 11, log 26). -/
def openingRows (s : State) : List Instr :=
  updateRows ++ (if completionDue s then [.reconstructionComplete] else []) ++ [.drainComplete]

/-- The state after `rows` have been executed one after the other. -/
def runRows (rows : List Instr) (s : State) : State :=
  match rows with
  | [] => s
  | c :: rest =>
    match exec c s with
    | .next t => runRows rest t
    | _ => s

/-- The control port is Idle and nothing is due before a request is executed. -/
abbrev ControlReady (s : State) : Prop := s.control.response = none ∧ NothingDue s

/-- The readout port is Idle and nothing is due before a request is executed. -/
abbrev ReadoutReady (s : State) : Prop := s.readout.response = none ∧ NothingDue s

/-- The control port once a request has been answered with `ws`: it keeps its overrun count, and its response begins at the first
crossing start after the execution (R154, R169; log 13). -/
def controlAnswering (s : State) (ws : List Word) : Port :=
  { s.control with response := some (.words ws), waits := isForming s }

/-- The readout port once a request has been answered with `r` (R136; log 13). -/
def readoutAnswering (s : State) (r : Response) : Port := { s.readout with response := some r, waits := isForming s }

/-- The overrun account after one more refused request with code `k` (R138, R169). -/
def overrunAfter (o : Option Overrun) (k : Nat) : Overrun :=
  match o with
  | none => ⟨k, 1⟩
  | some x => ⟨x.code, min (x.count + 1) 255⟩

/-! ### Stores -/

/-- The addressed stores are canonical, and no column slot or payload word lies outside its store (log 16). -/
abbrev StoresCanonical (s : State) : Prop :=
  Memory.wf (fun _ => StoredColumn.empty) s.pipeline.columns = true ∧
  Memory.wf (fun _ => (0 : Word)) s.buffer.words = true ∧
  Memory.wf catalogueDefault s.settings.pending = true ∧
  Memory.wf catalogueDefault s.settings.active = true ∧
  (∀ e ∈ s.pipeline.columns, e.1 < Config.pipelineDepth) ∧
  (∀ e ∈ s.buffer.words, e.1 < Config.payloadWords)

/-! ### Capacities (R71, R76, R87, R91, R116, R178) -/

/-- The queue, the ring, the Window Store and the Injection List stay within their capacities, and no two occupied window slots
have one number. -/
abbrev WithinCapacity (s : State) : Prop :=
  s.queue.entries.length ≤ Config.queueDepth ∧
  s.buffer.ring.length ≤ Config.ringDepth ∧
  (s.windows.map fun w => w.slot).Nodup ∧
  s.injection.fires.length ≤ Config.injectionRecords

/-! ### Counts (R14, R27, R138, R169, R174, R181) -/

/-- An accumulator holds at most 63 codes and their sum, and a candidate within the pedestal range (R174). -/
abbrev Accumulator.Bounded (a : Accumulator) : Prop :=
  a.count < Config.candidateCodes ∧ a.sum ≤ a.count * 4095 ∧ ∀ c ∈ a.held, c ≤ 16380

/-- Every accumulator is bounded. -/
abbrev TrackerBounded (s : State) : Prop :=
  ∀ ch : Channel, (s.tracker.get ch).hg.Bounded ∧ (s.tracker.get ch).lg.Bounded

/-- The saturating counts stay within their limits. -/
abbrev CountsBounded (s : State) : Prop :=
  s.run.ignored ≤ Config.countLimit ∧ s.run.discarded ≤ Config.countLimit ∧
  (∀ c ∈ causes, s.monitor.counts.get c ≤ Config.countLimit) ∧
  (∀ ch : Channel, (s.inputs.channels.get ch).faults ≤ Config.smallCountLimit) ∧
  (∀ o ∈ s.readout.overrun, o.count ≤ Config.smallCountLimit) ∧
  (∀ o ∈ s.control.overrun, o.count ≤ Config.smallCountLimit)

/-! ### Run state, throttle, freeze, sync -/

/-- The throttle is On in Run alone (R48). -/
abbrev ThrottleInRun (s : State) : Prop := s.trigger.throttle = .on → s.run.state = .run

/-- The pipeline is frozen in Idle alone (R186). -/
abbrev FrozenInIdle (s : State) : Prop := s.pipeline.frozen = true → s.run.state = .idle

/-- Outside Idle the timer is Synced (R23); what makes it so: a scheduled take that carries a run-locked item stands in Idle alone
(R162), and a crossing whose boundary changed the turn length is Unsynced (R24). -/
abbrev SyncedOutsideIdle (s : State) : Prop :=
  (s.run.state ≠ .idle → s.timer.sync = .synced) ∧
  (s.settings.take = .scheduled → s.settings.touched.any isRunLocked = true → s.run.state = .idle) ∧
  (∀ f ∈ s.timer.forming, f.lengthChanged = true → s.timer.sync = .unsynced)

/-- A crossing that is being formed has its position (R21). -/
abbrev TimerWhole (s : State) : Prop := s.timer.forming.isSome = true → s.timer.position.isSome = true

/-- The crossing number lies in the turn, and a crossing whose boundary is due has number 0 (R22). -/
abbrev NumberInTurn (s : State) : Prop :=
  TimerWhole s ∧
  ∀ p ∈ s.timer.position, p.number < turnLength s ∧ (∀ f ∈ s.timer.forming, f.boundaryDue = true → p.number = 0)

/-! ### Settings -/

/-- The seven consistency conditions of R161, in their order, on a setting set whose value at address `a` is `v a`. The addresses
are 408 to 411 for Latency, pre, post and Tap start, and eight times the item number for the others (log 15). -/
abbrev Consistent (v : Nat → Int) : Prop :=
  (5 ≤ v 409 + 1 + v 410 ∧ v 409 + 1 + v 410 ≤ 16) ∧
  v 411 ≤ v 409 + 1 + v 410 - 5 ∧
  v 408 + v 409 ≤ 254 ∧
  v 410 < v 408 ∧
  (v (8 * 49) ≤ v (8 * 50) ∧ v (8 * 50) < v (8 * 48)) ∧
  (v (8 * 59) < v (8 * 58) ∧ v (8 * 61) < v (8 * 60) ∧ v (8 * 62) < v (8 * 63)) ∧
  v (8 * 67) ≤ v (8 * 68)

/-- The Active Set satisfies the seven conditions, and so does the set a scheduled take would produce (R161, R165). -/
abbrev ActiveConsistent (s : State) : Prop :=
  Consistent (itemValue s.settings.active) ∧
  (s.settings.take = .scheduled → Consistent (itemValue (producedSet s.settings)))

/-- The range of the value at an address (R156, R157). -/
def valueInRange (address : Nat) (v : Int) : Bool :=
  if address / 8 = 51 then decide ((windowField (address % 8)).1 ≤ v ∧ v ≤ (windowField (address % 8)).2.1)
  else match itemRow (address / 8) with
    | some r => decide (r.low ≤ v ∧ v ≤ r.high)
    | none => false

/-- Every value of both setting sets that differs from its default lies in its range (R156, R157); the candidates the tracker may
install lie in the pedestal range (R174). -/
abbrev SettingsInRange (s : State) : Prop :=
  (∀ e ∈ s.settings.pending, valueInRange e.1 e.2 = true) ∧
  (∀ e ∈ s.settings.active, valueInRange e.1 e.2 = true) ∧
  TrackerBounded s

/-! ### The event chain -/

/-- The entries of the run in the queue. -/
def runEntries (s : State) : List Entry := s.queue.entries.filter fun e => !e.diagnostic

/-- The run's entries carry the current epoch and consecutive numbers ending before the event counter (R76); outside Run, Lost and
Stopping there is none, and every diagnostic entry is older than every entry of the run. -/
abbrev QueueNumbered (s : State) : Prop :=
  (∀ e ∈ runEntries s, e.epoch = s.run.epoch) ∧
  ((runEntries s).map fun e => e.event)
    = (List.range (runEntries s).length).map
        (fun i => s.queue.eventCounter - BitVec.ofNat 24 ((runEntries s).length - i)) ∧
  ((s.run.state = .idle ∨ s.run.state = .starting ∨ s.run.state = .resyncing) → runEntries s = []) ∧
  s.queue.entries = (s.queue.entries.filter fun e => e.diagnostic) ++ runEntries s

/-- The words the descriptors of the ring hold (R118). -/
def wordsHeld (ring : List Descriptor) : Nat := (ring.map payloadLength).sum

/-- The number of channels whose outcome has been placed (R95). -/
def Building.channelsPlaced (b : Building) : Nat :=
  match b.phase with
  | .begun => b.channel.val
  | .first => b.channel.val
  | .placed => b.channel.val + 1
  | .due => b.channel.val

/-- The words of a Building descriptor's records placed so far fit in what the reservation keeps for the channels placed (R94,
R95); channel 7 is placed by the completion alone (R96). -/
def placedWithin (b : Building) (w : Window) : Prop :=
  b.recordPosition ≤ headerLength w.testMatch + b.channelsPlaced * (3 + rawWordCount w.length) ∧
  (b.phase = .placed → b.channel ≠ 7)

/-- Every descriptor but the newest is Ready, but for an oldest one that is Sent. -/
def olderFinished (ring : List Descriptor) : Prop :=
  (∀ d ∈ ring.dropLast, d.state ≠ .building) ∧ (∀ d ∈ ring.drop 1, d.state ≠ .sent)

/-- The newest descriptor is Building exactly while the engine has a current event, whose slot is In use with a matching
reservation (R87, R90, R116). -/
def currentSound (s : State) : Prop :=
  match s.recon with
  | none => ∀ d ∈ s.buffer.ring, d.state ≠ .building
  | some b =>
    ∃ w d p, findWindow s.windows b.slot = some w ∧ w.state = .inUse ∧ s.buffer.ring.getLast? = some d ∧
      d.state = .building ∧ d.payload = some p ∧ p.start < Config.payloadWords ∧ p.length = reservation w.length ∧
      placedWithin b w

/-- The slot of a capture in progress is Filling (R87). -/
def captureSound (s : State) : Prop :=
  match s.capture with
  | none => True
  | some c => ∃ w, findWindow s.windows c.slot = some w ∧ w.state = .filling

/-- The Event Buffer is sound: the words in use are the sum of the lengths held and at most 8192 (R118), at most one descriptor is
Building, the newest, and at most one Sent, the oldest (R116). -/
abbrev BufferSound (s : State) : Prop :=
  s.buffer.wordsInUse = wordsHeld s.buffer.ring ∧ s.buffer.wordsInUse ≤ Config.payloadWords ∧
  s.buffer.fillPoint < Config.payloadWords ∧ olderFinished s.buffer.ring ∧ currentSound s ∧ captureSound s

end Sys2Proof.Machine
end

