-- ==== Sys2Proof/WellFormed.lean ====
section
/-! DEFINITION. Which commands are well formed: the operand of each row that stands for a value outside an assigned set
lies outside it. Every other operand type holds exactly the values its field can carry. -/

namespace Sys2Proof

/-- The readout request codes that are assigned: Fetch, Release, Status (R148). -/
def readoutCodeAssigned (code : BitVec 4) : Bool := decide (1 ≤ code.toNat ∧ code.toNat ≤ 3)

/-- The control request codes that are assigned: 1 to 26 (R151, R152). -/
def controlCodeAssigned (code : BitVec 5) : Bool := decide (1 ≤ code.toNat ∧ code.toNat ≤ 26)

/-- LINK_ERROR carries a frame that fails (R41); the two UNASSIGNED rows carry a code that is not assigned
(R137, R152). -/
def Instr.wellFormed (c : Instr) : Bool :=
  match c with
  | .linkError frame => !frameGood frame
  | .readoutUnassigned code => !readoutCodeAssigned code
  | .controlUnassigned code => !controlCodeAssigned code
  | _ => true

end Sys2Proof
end

