-- ==== Sys2Proof/Certificates/Slice0/Obligations.lean ====
section
/-! DEFINITION. The statements for the provers. -/

open Sys2Proof Sys2Proof.Machine

/-! ### Steps and reset -/

/-- One step takes the command at the front of the queue; on an empty queue the part idles, which is the model's choice (log 7).
Every command answers a next state in every state, and leaves the waiting commands alone. -/
def Obligations.StepRunsFrontCommand : Prop :=
  (∀ (c : Instr) (rest : List Instr) (s : State),
    step { s with pending := c :: rest } = exec c { s with pending := rest }) ∧
  (∀ s : State, step { s with pending := [] } = .next { s with pending := [] }) ∧
  ∀ (c : Instr) (s : State), ∃ t, exec c s = .next t ∧ t.pending = s.pending

/-- POWER_ON_RESET leaves every block at its power-on state. The outputs, the delivered pairs and the model's own fields at "none"
are the model's choice (log 14, log 18, log 22). The defaults are those of R156 and R157. -/
def Obligations.PowerOnResetState : Prop :=
  ∀ s : State, ∃ t, exec .powerOnReset s = .next t ∧
    t.timer = ⟨none, .unsynced, none⟩ ∧ t.run = ⟨.idle, 0, 0, 0⟩ ∧ t.trigger = ⟨.off, none⟩ ∧
    (∀ ch : Channel, t.inputs.channels.get ch = ⟨false, 0, 0, false⟩) ∧ t.inputs.pairs = none ∧
    (∀ slot, storedColumn t.pipeline slot = ⟨⟨Oct.all ⟨.empty, 0, .high, none⟩, 0, 0, false, false⟩, none⟩) ∧
    t.pipeline.head = none ∧ t.pipeline.frozen = false ∧
    (∀ tower : Tower, t.towers.get tower = ⟨none, none, none⟩) ∧ t.queue = ⟨[], 0, 0⟩ ∧ t.capture = none ∧ t.windows = [] ∧
    t.recon = none ∧ t.buffer.ring = [] ∧ (∀ i, payloadWord t.buffer i = 0) ∧ t.buffer.fillPoint = 0 ∧
    t.buffer.wordsInUse = 0 ∧ t.readout = ⟨none, false, none, none⟩ ∧ t.control = ⟨none, false, none, none⟩ ∧
    (∀ a, itemValue t.settings.pending a = catalogueDefault a ∧ itemValue t.settings.active a = catalogueDefault a) ∧
    (∀ row ∈ ([(1, 8, 1), (3, 8, 800), (4, 8, 800), (5, 8, 4096), (6, 8, 3840), (7, 8, 2), (8, 8, 0), (9, 8, 0),
        (10, 8, 16384), (11, 8, 0), (12, 8, 0), (13, 8, 0), (14, 8, 0), (15, 8, 0), (16, 8, 0), (17, 8, 0), (18, 8, 4096),
        (19, 8, 16384), (20, 8, 2), (21, 8, 8), (22, 8, 0), (23, 8, 0), (32, 4, 0), (33, 4, 2), (34, 4, 0), (48, 1, 3000),
        (49, 1, 2900), (50, 1, 2999), (52, 1, 64), (53, 1, 2000), (54, 1, 0), (55, 1, 0), (56, 1, 0), (57, 1, 0),
        (58, 1, 12), (59, 1, 8), (60, 1, 56), (61, 1, 48), (62, 1, 1024), (63, 1, 2048), (64, 1, 16), (65, 1, 20),
        (66, 1, 100), (67, 1, 0), (68, 1, 1023), (69, 1, 16), (70, 1, 0), (71, 1, 100), (72, 1, 0)] : List (Nat × Nat × Int)),
      ∀ i, i < row.2.1 → catalogueDefault (8 * row.1 + i) = row.2.2) ∧
    (∀ ch : Channel, catalogueDefault (8 * 2 + ch.val) = (ch.val / 2 : Nat)) ∧
    [408, 409, 410, 411].map catalogueDefault = [128, 2, 4, 0] ∧
    t.settings.touched = [] ∧ t.settings.take = .none ∧ t.settings.generation = 0 ∧
    (∀ ch : Channel, t.tracker.get ch = ⟨⟨0, 0, none, none⟩, ⟨0, 0, none, none⟩⟩) ∧
    t.injection = ⟨.off, .up, [], Oct.all none⟩ ∧ t.monitor = ⟨0, 7, ⟨0, 0, 0, 0, 0, 0, 0, 0, 0, 0⟩⟩ ∧
    t.pending = s.pending

/-- The reset state meets every invariant of the statements below. -/
def Obligations.ResetMeetsInvariants : Prop :=
  StoresCanonical State.reset ∧ WithinCapacity State.reset ∧ CountsBounded State.reset ∧ TrackerBounded State.reset ∧
  ThrottleInRun State.reset ∧ FrozenInIdle State.reset ∧ SyncedOutsideIdle State.reset ∧ NumberInTurn State.reset ∧
  ActiveConsistent State.reset ∧ SettingsInRange State.reset ∧ QueueNumbered State.reset ∧ BufferSound State.reset

/-! ### Invariants -/

/-- Every step keeps the addressed stores canonical. -/
def Obligations.StoresCanonicalKept : Prop :=
  ∀ s t : State, StoresCanonical s → step s = .next t → StoresCanonical t

/-- Every step keeps the queue, the ring, the Window Store, the Injection List and the saturating counts within their limits. -/
def Obligations.LimitsKept : Prop :=
  ∀ s t : State, WithinCapacity s → CountsBounded s → step s = .next t → WithinCapacity t ∧ CountsBounded t

/-- Every step keeps the throttle Off outside Run and the pipeline unfrozen outside Idle. -/
def Obligations.RunGuardsKept : Prop :=
  ∀ s t : State, ThrottleInRun s → FrozenInIdle s → step s = .next t → ThrottleInRun t ∧ FrozenInIdle t

/-- Every step keeps the timer Synced outside Idle. -/
def Obligations.SyncedOutsideIdleKept : Prop :=
  ∀ s t : State, SyncedOutsideIdle s → step s = .next t → SyncedOutsideIdle t

/-- Every step keeps the crossing number below the active turn length. -/
def Obligations.NumberInTurnKept : Prop :=
  ∀ s t : State, SettingsInRange s → NumberInTurn s → step s = .next t → NumberInTurn t

/-- Every step keeps the seven consistency conditions of R161 on the Active Set, and on the set a scheduled take would produce. -/
def Obligations.ActiveConsistentKept : Prop :=
  ∀ s t : State, ActiveConsistent s → step s = .next t → ActiveConsistent t

/-- Every step keeps every setting value in its range and every pedestal candidate in the pedestal range. -/
def Obligations.SettingsInRangeKept : Prop :=
  ∀ s t : State, SettingsInRange s → step s = .next t → SettingsInRange t

/-- Every step keeps the run's entries in the queue numbered without a gap up to the event counter, in the current epoch and
behind the diagnostic entries. -/
def Obligations.QueueNumberedKept : Prop :=
  ∀ s t : State, FrozenInIdle s → QueueNumbered s → step s = .next t → QueueNumbered t

/-- Every step keeps the Event Buffer sound: words in use the sum of the lengths held, one Building descriptor at the newest end
while an event is built, one Sent descriptor at the oldest. -/
def Obligations.BufferSoundKept : Prop :=
  ∀ s t : State, WithinCapacity s → BufferSound s → step s = .next t → BufferSound t

/-- The frame, the readout request word or the control request words of every well-formed command are read back as the command. -/
def Obligations.LinkRequestsRoundTrip : Prop :=
  ∀ i : Instr, i.wellFormed = true →
    (∀ f, encodeFrame i = some f → decodeFrame f = i) ∧
    (∀ w, encodeReadoutRequest i = some w → decodeReadoutRequest w = i) ∧
    (∀ w v, encodeControlRequest i = some (w, v) →
      hasValueWord (w.extractLsb' 27 5) = v.isSome ∧ decodeControlRequest w (v.getD 0) = i)

/-! ### The crossing start -/

/-- CROSSING_START of a crossing of which nothing has been taken: index, number and turn count by R21 and R22. A CROSSING_START
with or without rows of its crossing before it is that of the crossing entered. -/
def Obligations.CrossingStartCounts : Prop :=
  (∀ (pairs : Oct CodePair) (s : State), TimerWhole s →
    exec (.crossingStart pairs) s = exec (.crossingStart pairs) (enterCrossing s) ∧
    ∃ p f, EnteredAt (enterCrossing s) p f) ∧
  ∀ (pairs : Oct CodePair) (s : State), s.timer.forming = none →
    ∃ t q, exec (.crossingStart pairs) s = .next t ∧ t.timer.position = some q ∧ t.timer.forming = none ∧
      match s.timer.position with
      | none => q = ⟨0, 0, 0⟩
      | some p =>
        q.index = p.index + 1 ∧
        (p.number + 1 ≠ turnLength s → q.number = p.number + 1 ∧ q.turnCount = p.turnCount) ∧
        (p.number + 1 = turnLength s →
          q.number = 0 ∧ q.turnCount = if s.run.state = .starting then 0 else p.turnCount + 1)

/-- CROSSING_START of an entered crossing writes its column unless the pipeline is frozen: source by R2, gain selection, hold and
fault counts by R3, R5, R6 and R14, metadata by R10, in the slot of the index, and no other slot changes; a faulted converter of a
channel that is not Off reports one ConverterFault, and none is reported while frozen (R7, R17). The timer, the settings, the
Injection List, the event counters and, unless a Stopping run drains, the run stay. A kill that falls due is left to AUTO_KILL,
which is the model's choice (log 11). -/
def Obligations.CrossingStartWritesColumn : Prop :=
  ∀ (pairs : Oct CodePair) (s : State) (p : Position) (f : Forming), EnteredAt s p f →
    let source := fun ch : Channel =>
      (if (s.inputs.channels.get ch).killed = true ∨ active s 1 ch.val = 0 then none
       else if active s 1 ch.val = 2 then some .test
       else if active s 1 ch.val = 3 then some .quiet
       else some .normal : Option Source)
    ∃ t, exec (.crossingStart pairs) s = .next t ∧ t.inputs.pairs = some pairs ∧
      t.timer = { s.timer with forming := none } ∧ t.settings = s.settings ∧ t.injection = s.injection ∧
      t.monitor.enables = s.monitor.enables ∧ t.queue = { s.queue with entries := t.queue.entries } ∧
      t.run = { s.run with state := t.run.state } ∧ (s.run.state ≠ .stopping → t.run = s.run) ∧ t.pending = s.pending ∧
      (s.pipeline.frozen = true → t.pipeline = s.pipeline ∧ t.inputs.channels = s.inputs.channels ∧ t.towers = s.towers ∧
        t.tracker = s.tracker ∧ t.monitor.flags.getLsbD 8 = s.monitor.flags.getLsbD 8 ∧
        t.monitor.counts.converterFault = s.monitor.counts.converterFault) ∧
      (s.pipeline.frozen = false →
        t.pipeline.frozen = false ∧ t.pipeline.head = some p.index ∧
        ((∃ ch : Channel, source ch ≠ none ∧ ((pairs.get ch).hgFault = true ∨ (pairs.get ch).lgFault = true)) →
          t.monitor.flags.getLsbD 8 = true ∧
          t.monitor.counts.converterFault = satInc 65535 s.monitor.counts.converterFault) ∧
        ((∀ ch : Channel, source ch ≠ none → (pairs.get ch).hgFault = false ∧ (pairs.get ch).lgFault = false) →
          t.monitor.flags.getLsbD 8 = s.monitor.flags.getLsbD 8 ∧
          t.monitor.counts.converterFault = s.monitor.counts.converterFault) ∧
        (∀ slot, slot ≠ p.index % 256 → storedColumn t.pipeline slot = storedColumn s.pipeline slot) ∧
        ∃ cells,
          storedColumn t.pipeline (p.index % 256)
            = ⟨⟨cells, BitVec.ofNat 12 p.number, p.turnCount.setWidth 12,
                decide (gapStart s ≤ p.number ∧ p.number ≤ gapEnd s), f.injected⟩, some p.index⟩ ∧
          ∀ ch : Channel,
            let old := s.inputs.channels.get ch
            let new := t.inputs.channels.get ch
            let pair := pairs.get ch
            new.killed = old.killed ∧
            new.faults = (if (cells.get ch).state = .fault then satInc 255 old.faults else 0) ∧
            new.killDue = decide (killCount s ch ≠ 0 ∧ killCount s ch ≤ new.faults) ∧
            match source ch with
            | none => cells.get ch = ⟨.off, 0, .high, none⟩ ∧ new.hold = 0
            | some x =>
              if pair.hgFault = true ∨ switchThreshold s ch ≤ pair.hg.toNat ∨ 0 < old.hold then
                cells.get ch
                  = ⟨if pair.lgFault = true then .fault else if pair.lg = 4095#12 then .saturated else .good,
                      pair.lg, .low, some x⟩ ∧
                new.hold
                  = (if pair.hgFault = true then old.hold
                     else if switchThreshold s ch ≤ pair.hg.toNat then gainHold s ch else old.hold - 1)
              else cells.get ch = ⟨.good, pair.hg, .high, some x⟩ ∧ new.hold = old.hold)

/-- CROSSING_START of an entered, unfrozen crossing shifts each tower's history by one, its newest entry formed from the column
just written (R53 to R58). While Synced, the frame carries the primitive each history gives, by the first step of R59 that applies
(R60, R62 to R64), and every tower that signals reports TowerInvalid (R61). -/
def Obligations.TowersAndPrimitives : Prop :=
  ∀ (pairs : Oct CodePair) (s : State) (p : Position) (f : Forming), EnteredAt s p f → s.pipeline.frozen = false →
    ∃ t u, exec (.crossingStart pairs) s = .next t ∧ t.trigger.uplink = some u ∧
      let cell := fun ch : Channel => (storedColumn t.pipeline (p.index % 256)).column.cells.get ch
      let contributes := fun ch : Channel =>
        ((cell ch).state = .good ∨ (cell ch).state = .saturated) ∧ (cell ch).source ≠ some .quiet
      let unified := fun ch : Channel =>
        match (cell ch).gain with
        | .high => 4 * ((cell ch).code.toNat : Int) - hgPedestal s ch
        | .low => ((4 * ((cell ch).code.toNat : Int) - lgPedestal s ch) * gainRatio s ch + 128) / 256
      let signals := fun tower : Tower =>
        let h := t.towers.get tower
        !h.middle.any (fun x => x.saturated) &&
          (h.older.any (fun x => x.invalid) || h.middle.any (fun x => x.invalid) || h.newest.any fun x => x.invalid) &&
          decide (invalidPolicy s tower = 2)
      (∀ tower : Tower, ∃ x,
        t.towers.get tower = ⟨(s.towers.get tower).middle, (s.towers.get tower).newest, some x⟩ ∧
        x.sum
          = (channels.map fun ch =>
              if towerAssignment s ch = tower.val ∧ contributes ch then
                (unified ch * triggerWeight s ch + 32768) / 65536
              else 0).sum ∧
        (x.invalid = true ↔ ∃ ch : Channel, towerAssignment s ch = tower.val ∧
          ((cell ch).state = .empty ∨ (cell ch).state = .fault ∧ (cell ch).source ≠ some .quiet)) ∧
        (x.saturated = true ↔ ∃ ch : Channel, towerAssignment s ch = tower.val ∧
          (cell ch).state = .saturated ∧ (cell ch).source ≠ some .quiet)) ∧
      (s.timer.sync = .unsynced → t.monitor.counts.towerInvalid = s.monitor.counts.towerInvalid) ∧
      (s.timer.sync = .synced →
        (s.monitor.counts.towerInvalid ≤ 65535 →
          t.monitor.counts.towerInvalid
            = min (s.monitor.counts.towerInvalid + (([0, 1, 2, 3] : List Tower).filter signals).length) 65535) ∧
        ∀ tower : Tower,
          let h := t.towers.get tower
          let saturated := h.middle.any fun x => x.saturated
          let invalid := h.older.any (fun x => x.invalid) || h.middle.any (fun x => x.invalid) || h.newest.any fun x => x.invalid
          (saturated = true → u.primitives.get tower = ⟨255, .saturated⟩) ∧
          (saturated = false → invalid = true →
            u.primitives.get tower = if invalidPolicy s tower = 1 then ⟨255, .invalid⟩ else ⟨0, .invalid⟩) ∧
          (saturated = false → invalid = false → (h.older = none ∨ h.middle = none ∨ h.newest = none) →
            u.primitives.get tower = ⟨0, .invalid⟩) ∧
          ∀ a ∈ h.older, ∀ b ∈ h.middle, ∀ c ∈ h.newest, saturated = false → invalid = false →
            let v := if towerPairMode s tower then b.sum + max a.sum c.sum else b.sum
            let e := (v + 2 ^ towerShift s tower / 2) / 2 ^ towerShift s tower
            u.primitives.get tower
              = if a.sum < b.sum ∧ c.sum ≤ b.sum ∧ 0 < v then
                  if 255 < e then ⟨255, .saturated⟩ else ⟨BitVec.ofInt 8 e, .none⟩
                else ⟨0, .none⟩)

/-- CROSSING_START of an entered, unfrozen crossing adds the raw code of each gain that is not faulted to the accumulator of a
channel that meets the four conditions of R173, and leaves every other accumulator. The 64th code is left waiting for
PEDESTAL_CANDIDATE, which is the model's choice (log 11). -/
def Obligations.PedestalsAccumulate : Prop :=
  ∀ (pairs : Oct CodePair) (s : State) (p : Position) (f : Forming), EnteredAt s p f → s.pipeline.frozen = false →
    ∃ t, exec (.crossingStart pairs) s = .next t ∧
      ∀ (ch : Channel) (g : Gain),
        let old := accumulator s ch g
        let code := match g with
          | .high => (pairs.get ch).hg
          | .low => (pairs.get ch).lg
        let faulted := match g with
          | .high => (pairs.get ch).hgFault
          | .low => (pairs.get ch).lgFault
        let adds := faulted = false ∧ trackingOn s ch = true ∧ (gapStart s ≤ p.number ∧ p.number ≤ gapEnd s) ∧
          ((s.inputs.channels.get ch).killed = false ∧ active s 1 ch.val ≠ 0 ∧ active s 1 ch.val ≠ 2) ∧
          ∀ i ∈ s.injection.fires, ¬ (i.index ≤ p.index ∧ p.index - i.index ≤ 7)
        (¬ adds → accumulator t ch g = old) ∧
        (adds → old.count + 1 < 64 →
          accumulator t ch g = { old with sum := old.sum + code.toNat, count := old.count + 1 }) ∧
        (adds → 64 ≤ old.count + 1 → accumulator t ch g = { old with due := some code })

/-- Every CROSSING_START sends an uplink frame: status by the run state and throttle after it (R45), attention (R46), the
turn-start echo (R47), and four zero primitives with flag None while frozen or Unsynced (R65). -/
def Obligations.UplinkFrameContents : Prop :=
  ∀ (pairs : Oct CodePair) (s : State), TimerWhole s →
    ∃ t q u, exec (.crossingStart pairs) s = .next t ∧ t.timer.position = some q ∧ t.trigger.uplink = some u ∧
      u.status
        = (match t.run.state with
           | .lost => .lost
           | .resyncing => .resyncing
           | .run => if t.trigger.throttle = .on then .throttle else .ready
           | .starting => .starting
           | .stopping => .stopping
           | .idle => .idle) ∧
      (u.attention = true ↔ ∃ c ∈ causes, t.monitor.flags.getLsbD c.bit = true ∧ t.monitor.enables.getLsbD c.bit = true) ∧
      (u.turnStart = true ↔ q.number = 0) ∧
      (t.pipeline.frozen = true ∨ t.timer.sync = .unsynced → ∀ tower : Tower, u.primitives.get tower = ⟨0, .none⟩)

/-- CROSSING_START of an entered crossing in Run evaluates the throttle against the occupancies it leaves (R48 to R51). -/
def Obligations.ThrottleEvaluated : Prop :=
  ∀ (pairs : Oct CodePair) (s : State) (p : Position) (f : Forming), EnteredAt s p f → s.run.state = .run →
    ∃ t, exec (.crossingStart pairs) s = .next t ∧
      (t.trigger.throttle = .on ↔
        if s.trigger.throttle = .off then
          queueOn s ≤ t.queue.entries.length ∨ descriptorOn s ≤ t.buffer.ring.length ∨
            8192 - t.buffer.wordsInUse < payloadOn s
        else
          ¬ (t.queue.entries.length ≤ queueOff s ∧ t.buffer.ring.length ≤ descriptorOff s ∧
              payloadOff s ≤ 8192 - t.buffer.wordsInUse))

/-- CROSSING_START and the two request links: an Idle period has no word; a response formed inside this crossing start waits for
the next (log 13); otherwise the next word of a plain response, the next fragment word of a stream, or its end word goes out; a
response whose words have all been sent ends, the port Idle without a word, or with the Busy word of the refused requests sent at
once (R136, R138, R140, R143, R154, R169). -/
def Obligations.PortsSendOneWord : Prop :=
  ∀ (pairs : Oct CodePair) (s : State),
    ∃ t, exec (.crossingStart pairs) s = .next t ∧
      let sends := fun (before after : Port) (busy : Overrun → Word) =>
        (before.response = none → after = { before with waits := false, out := none }) ∧
        (∀ r, before.response = some r → before.waits = true → after = { before with waits := false, out := none }) ∧
        (before.waits = false →
          (∀ w rest, before.response = some (.words (w :: rest)) →
            after = { before with response := some (.words rest), out := some w }) ∧
          (∀ st start, before.response = some (.stream st) → st.source = .stored start → st.ended = false →
            st.aborted = false → st.position < st.length →
            after =
              { before with
                response := some (.stream { st with position := st.position + 1 })
                out := some (payloadWord t.buffer (start + st.position)) }) ∧
          (∀ st header, before.response = some (.stream st) → st.source = .formed header → st.ended = false →
            st.aborted = false → st.position < st.length →
            after =
              { before with
                response := some (.stream { st with position := st.position + 1 })
                out := some (header.getD st.position 0) }) ∧
          (∀ st, before.response = some (.stream st) → st.ended = false →
            (st.aborted = true ∨ st.length ≤ st.position) →
            after =
              { before with
                response := some (.stream { st with ended := true })
                out := some (14#4 ++ (BitVec.ofBool st.aborted ++ (BitVec.ofNat 7 st.position ++
                  (st.epoch ++ st.event.setWidth 16)))) }) ∧
          ((before.response = some (.words []) ∨ ∃ st, before.response = some (.stream st) ∧ st.ended = true) →
            (before.overrun = none → after = { before with response := none, out := none }) ∧
            ∀ o, before.overrun = some o →
              after = { before with response := some (.words []), overrun := none, out := some (busy o) }))
      sends s.readout t.readout
        (fun o => 12#4 ++ (BitVec.ofNat 4 o.code ++ (BitVec.ofNat 8 o.count ++ 0#16))) ∧
      sends s.control t.control
        (fun o => BitVec.ofNat 5 o.code ++ (4#3 ++ (0#5 ++ (0#3 ++ (0#8 ++ BitVec.ofNat 8 o.count)))))

/-! ### Frame commands -/

/-- A frame command other than Turn Marker enters its crossing first, so that it is taken after the boundary (log 5); a second
frame in one crossing changes nothing, which is the model's choice (log 4). LINK_ERROR, crossing entered: one LinkError
occurrence, and in Run the run becomes Lost (R30, R41); that an operand which is a good frame does the same is the model's choice
(log 19). NONE changes nothing (R42). -/
def Obligations.FramesEnterTheCrossing : Prop :=
  (∀ (c : Instr) (s : State), (c = .accept ∨ c = .testFire ∨ c = .resync ∨ ∃ x, c = .linkError x) → TimerWhole s →
    (frameTaken s = true → exec c s = .next s) ∧
    (frameTaken s = false → exec c s = exec c (enterCrossing s) ∧
      ∃ p f, EnteredAt (enterCrossing s) p f ∧ f.frameTaken = false)) ∧
  (∀ s : State, exec .noneCommand s = .next s) ∧
  ∀ (x : BitVec 4) (s : State) (p : Position) (f : Forming), EnteredAt s p f → f.frameTaken = false →
    let timer : Timer := { s.timer with forming := some { f with frameTaken := true } }
    (s.run.state = .run →
      exec (.linkError x) s = .next
        { s with
          timer := timer
          run := { s.run with state := .lost }
          trigger := { s.trigger with throttle := .off }
          monitor := s.monitor.occurrence .linkError }) ∧
    (s.run.state ≠ .run →
      exec (.linkError x) s = .next { s with timer := timer, monitor := s.monitor.occurrence .linkError })

/-- ACCEPT in an entered crossing, by run state: in Run an entry with the fields of R71 to R74 and the next event number, or, with
16 entries held, a discarded accept, AcceptOverflow and Lost; ignored in Idle, Starting and Stopping, discarded in Lost and
Resyncing, and counted; nothing else changes (R27, R30, R71, R73). -/
def Obligations.AcceptByRunState : Prop :=
  ∀ (s : State) (p : Position) (f : Forming), EnteredAt s p f → f.frameTaken = false →
    let timer : Timer := { s.timer with forming := some { f with frameTaken := true } }
    let c : Int := (p.index : Int) - (latency s : Int)
    (s.run.state = .run → s.queue.entries.length < 16 →
      exec .accept s = .next
        { s with
          timer := timer
          queue :=
            { s.queue with
              entries := s.queue.entries ++
                [{ event := s.queue.eventCounter, epoch := s.run.epoch, accept := some c,
                   number := (readColumn s c).number, turnLow := (readColumn s c).turnLow, intake := some p.index,
                   rawForced := decide (rawPrescale s ≠ 0 ∧ s.queue.eventCounter.toNat % rawPrescale s = 0),
                   diagnostic := false, testMatch := testMatchAt s c }]
              eventCounter := s.queue.eventCounter + 1 } }) ∧
    (s.run.state = .run → 16 ≤ s.queue.entries.length →
      exec .accept s = .next
        { s with
          timer := timer
          run := { s.run with state := .lost, discarded := satInc 65535 s.run.discarded }
          trigger := { s.trigger with throttle := .off }
          monitor := s.monitor.occurrence .acceptOverflow }) ∧
    (s.run.state = .idle ∨ s.run.state = .starting ∨ s.run.state = .stopping →
      exec .accept s = .next { s with timer := timer, run := { s.run with ignored := satInc 65535 s.run.ignored } }) ∧
    (s.run.state = .lost ∨ s.run.state = .resyncing →
      exec .accept s = .next { s with timer := timer, run := { s.run with discarded := satInc 65535 s.run.discarded } })

/-- The test match of an accept crossing c is that of the matching fire with the largest index i, a fire matching when c − i lies
in d − 1 .. d + 1; it is absent when no fire matches (R75). -/
def Obligations.TestMatchIsNewest : Prop :=
  ∀ (s : State) (c : Int),
    let matching := fun f : Fire => injectionDelay s - 1 ≤ c - f.index ∧ c - f.index ≤ injectionDelay s + 1
    (testMatchAt s c = none ↔ ∀ f ∈ s.injection.fires, ¬ matching f) ∧
    ∀ m, testMatchAt s c = some m →
      ∃ f ∈ s.injection.fires, matching f ∧ (∀ g ∈ s.injection.fires, matching g → g.index ≤ f.index) ∧
        m.amplitude = f.amplitude ∧ m.offset = c - f.index - injectionDelay s

/-- TEST_FIRE, crossing entered: charge of the current amplitude into every Test channel not killed, the injection flag, a record
that pushes out the oldest of four, and the scan count; nothing else changes (R177, R178). The step that ends a point is left to
SCAN_STEP, which is the model's choice (log 11). INJECTION_RECORD_AGE_OUT where a record reaches age 256 at the next crossing
start removes exactly the records of that age and above; otherwise it changes nothing (R178; log 3). -/
def Obligations.InjectionListEffects : Prop :=
  (∀ (s : State) (p : Position) (f : Forming), EnteredAt s p f → f.frameTaken = false →
    exec .testFire s = .next
      { s with
        timer := { s.timer with forming := some { f with frameTaken := true, injected := true } }
        injection :=
          { s.injection with
            scan :=
              (match s.injection.scan with
               | .running a n due =>
                 if firesPerPoint s ≤ n + 1 then .running a n true else .running a (n + 1) due
               | .off => .off
               | .done a => .done a)
            fires := (if s.injection.fires.length < 4 then s.injection.fires else s.injection.fires.drop 1)
              ++ [⟨p.index, currentAmplitude s⟩]
            charge := Oct.ofFn fun ch =>
              if channelMode s ch = .test ∧ (s.inputs.channels.get ch).killed = false then some (currentAmplitude s)
              else none } }) ∧
  ∀ s : State,
    let n := match s.timer.position with
      | none => 0
      | some p => p.index + 1
    (s.timer.forming = none → (∃ f ∈ s.injection.fires, f.index + 256 ≤ n) →
      ∃ t q, exec .injectionRecordAgeOut s = .next t ∧ t.timer.position = some q ∧ q.index = n ∧
        t.injection.fires = s.injection.fires.filter fun f => decide (n < f.index + 256)) ∧
    (s.timer.forming ≠ none ∨ (∀ f ∈ s.injection.fires, n < f.index + 256) →
      exec .injectionRecordAgeOut s = .next s)

/-- RESYNC, crossing entered: in Run or Lost the run becomes Resyncing, queue, capture, Window Store and the Building event are
discarded and the non-diagnostic entries counted; in any other run state it is ignored (R31, R86, R111, R123). -/
def Obligations.ResyncEffect : Prop :=
  ∀ (s : State) (p : Position) (f : Forming), EnteredAt s p f → f.frameTaken = false →
    let timer : Timer := { s.timer with forming := some { f with frameTaken := true } }
    (s.run.state = .run ∨ s.run.state = .lost →
      ∃ t, exec .resync s = .next t ∧
        t = { s with
              timer := timer
              run :=
                { s.run with
                  state := .resyncing
                  discarded := min (s.run.discarded + (s.queue.entries.filter fun e => !e.diagnostic).length) 65535 }
              trigger := { s.trigger with throttle := .off }
              queue := { s.queue with entries := [] }
              capture := none
              windows := []
              recon := none
              buffer := t.buffer } ∧
        (s.recon = none → t.buffer = s.buffer) ∧
        (∀ b older d q, s.recon = some b → s.buffer.ring = older ++ [d] → d.payload = some q →
          t.buffer =
            { s.buffer with ring := older, fillPoint := q.start, wordsInUse := s.buffer.wordsInUse - q.length })) ∧
    (s.run.state ≠ .run → s.run.state ≠ .lost → exec .resync s = .next { s with timer := timer })

/-- TURN_MARKER gives its crossing number 0, makes the part Synced and a boundary due; a realigning marker taken while Synced
outside Resyncing reports TurnSlip, and in Run loses the run; in Resyncing the run begins (R23, R30, R32). A marker that comes
after the crossing has been formed re-forms it, which is the model's choice (log 6). -/
def Obligations.TurnMarkerEffect : Prop :=
  ∀ s : State, TimerWhole s → frameTaken s = false →
    let u := openCrossing s
    ∃ t, exec .turnMarker s = .next t ∧ ∃ p f, u.timer.position = some p ∧ u.timer.forming = some f ∧
      let expected := if f.numberFormed = true then p.number
        else if p.index = 0 then 0 else if p.number + 1 = turnLength u then 0 else p.number + 1
      let slips := u.timer.sync = .synced ∧ expected ≠ 0 ∧ u.run.state ≠ .resyncing
      t = { u with timer := t.timer, run := t.run, trigger := t.trigger, queue := t.queue, monitor := t.monitor } ∧
      t.timer.position = some
        { p with number := 0, turnCount := if u.run.state = .resyncing then 0 else p.turnCount } ∧
      (f.lengthChanged = false → t.timer.sync = .synced) ∧
      (f.lengthChanged = true → t.timer.sync = .unsynced) ∧
      (f.numberFormed = false ∨ p.number ≠ 0 → boundaryDue t = true) ∧ frameTaken t = true ∧
      (slips → t.monitor = u.monitor.occurrence .turnSlip) ∧ (¬ slips → t.monitor = u.monitor) ∧
      (u.run.state = .resyncing →
        t.run = { u.run with state := .run, epoch := u.run.epoch + 1 } ∧ t.queue = { u.queue with eventCounter := 0 } ∧
        t.trigger = { u.trigger with throttle := .off }) ∧
      (u.run.state = .run → slips →
        t.run = { u.run with state := .lost } ∧ t.queue = u.queue ∧ t.trigger = { u.trigger with throttle := .off }) ∧
      (u.run.state ≠ .resyncing → ¬ (u.run.state = .run ∧ slips) →
        t.run = u.run ∧ t.queue = u.queue ∧ t.trigger = u.trigger)

/-! ### The turn boundary -/

/-- TURN_BOUNDARY where a boundary is due: the turn count, the begin of a Starting run, and the sync state (R22, R24, R29); it is
that of the crossing being formed or of the next one, and a crossing that is no boundary is left as it is, which is the model's
choice (log 3). -/
def Obligations.TurnBoundaryEffect : Prop :=
  (∀ s : State,
    (boundaryDue (formNumber (openCrossing s)) = false → exec .turnBoundary s = .next s) ∧
    (boundaryDue (formNumber (openCrossing s)) = true →
      exec .turnBoundary s = exec .turnBoundary (formNumber (openCrossing s)))) ∧
  ∀ (s : State) (p : Position) (f : Forming), s.timer.position = some p → s.timer.forming = some f →
    f.numberFormed = true → f.boundaryDue = true →
    ∃ t, exec .turnBoundary s = .next t ∧ boundaryDue t = false ∧
      t = { s with timer := t.timer, run := t.run, trigger := t.trigger, queue := t.queue, tracker := t.tracker,
                   settings := t.settings, monitor := t.monitor } ∧
      t.timer.position = some
        { p with turnCount :=
                   if p.index = 0 ∨ f.enteredRun = true ∨ s.run.state = .starting then 0 else p.turnCount + 1 } ∧
      (turnLength t = turnLength s → t.timer.sync = s.timer.sync) ∧
      (turnLength t ≠ turnLength s → t.timer.sync = .unsynced) ∧
      (s.run.state = .starting →
        t.run = { s.run with state := .run, epoch := s.run.epoch + 1 } ∧ t.queue = { s.queue with eventCounter := 0 } ∧
        t.trigger = { s.trigger with throttle := .off }) ∧
      (s.run.state ≠ .starting → t.run = s.run ∧ t.queue = s.queue ∧ t.trigger = s.trigger)

/-- A due boundary with a take Scheduled copies the pending value of every touched item into the Active Set, clears the touched
flags and the take state, leaves the Pending Set, and counts the generation when an active value changed (R165, R166). For a
pedestal the installs follow: a candidate the take has not discarded is installed within the new Track limit of the new pedestal
and refused with PedestalJump otherwise (R165, R175), and the take clears or restarts the accumulators (R176). -/
def Obligations.BoundaryAppliesTake : Prop :=
  ∀ (s : State) (p : Position) (f : Forming), s.timer.position = some p → s.timer.forming = some f →
    f.numberFormed = true → f.boundaryDue = true → StoresCanonical s → s.settings.take = .scheduled →
    ∃ t, exec .turnBoundary s = .next t ∧ t.settings.take = .none ∧ t.settings.touched = [] ∧
      t.settings.pending = s.settings.pending ∧
      (∀ a, a / 8 ≠ 3 → a / 8 ≠ 4 →
        itemValue t.settings.active a
          = if ∃ item ∈ s.settings.touched, a ∈ itemAddresses item then itemValue s.settings.pending a
            else itemValue s.settings.active a) ∧
      ((∀ a, itemValue t.settings.active a = itemValue s.settings.active a) →
        t.settings.generation = s.settings.generation) ∧
      ((∃ a, itemValue t.settings.active a ≠ itemValue s.settings.active a) →
        t.settings.generation = s.settings.generation + 1) ∧
      (let v := fun a : Nat =>
        if ∃ item ∈ s.settings.touched, a ∈ itemAddresses item then itemValue s.settings.pending a
        else itemValue s.settings.active a;
        (∀ (ch : Channel) (g : Gain),
          let item := match g with
            | .high => 8 * 3 + ch.val
            | .low => 8 * 4 + ch.val
          let cleared := s.settings.touched.contains item ||
            decide (itemValue s.settings.active (8 * 22 + ch.val) = 1 ∧ v (8 * 22 + ch.val) ≠ 1)
          let restarted := decide (itemValue s.settings.active (8 * 22 + ch.val) = 1 ∧ v (8 * 22 + ch.val) = 1 ∧
            v (8 + ch.val) ≠ itemValue s.settings.active (8 + ch.val))
          accumulator t ch g
            = (if cleared || restarted then ⟨0, 0, none, none⟩ else { accumulator s ch g with held := none }) ∧
          itemValue t.settings.active item
            = (match (if cleared then none else (accumulator s ch g).held) with
               | none => v item
               | some c => if |(c : Int) - v item| ≤ v (8 * 64) then (c : Int) else v item)) ∧
        (t.monitor.flags.getLsbD 6 = true ↔ s.monitor.flags.getLsbD 6 = true ∨
          ∃ (ch : Channel) (g : Gain), ∃ c ∈ (accumulator s ch g).held,
            let item := match g with
              | .high => 8 * 3 + ch.val
              | .low => 8 * 4 + ch.val
            item ∉ s.settings.touched ∧
            ¬ (itemValue s.settings.active (8 * 22 + ch.val) = 1 ∧ v (8 * 22 + ch.val) ≠ 1) ∧
            v (8 * 64) < |(c : Int) - v item|))

/-- A due boundary without a take offers every held candidate: it is installed within the Track limit of the active pedestal and
refused with PedestalJump otherwise, is no longer held, and the Pending Set and touched flags stay (R175); an install that changes
a pedestal counts the generation, and nothing else does (R165, R166). -/
def Obligations.BoundaryInstallsCandidates : Prop :=
  ∀ (s : State) (p : Position) (f : Forming), s.timer.position = some p → s.timer.forming = some f →
    f.numberFormed = true → f.boundaryDue = true → StoresCanonical s → s.settings.take = .none →
    ∃ t, exec .turnBoundary s = .next t ∧ t.settings.pending = s.settings.pending ∧
      t.settings.touched = s.settings.touched ∧ t.settings.take = .none ∧
      (∀ (ch : Channel) (g : Gain),
        accumulator t ch g = { accumulator s ch g with held := none } ∧
        activePedestal t ch g
          = (match (accumulator s ch g).held with
             | none => activePedestal s ch g
             | some c => if |(c : Int) - activePedestal s ch g| ≤ trackLimit s then (c : Int) else activePedestal s ch g)) ∧
      (∀ a, a / 8 ≠ 3 → a / 8 ≠ 4 → itemValue t.settings.active a = itemValue s.settings.active a) ∧
      (t.monitor.flags.getLsbD 6 = true ↔ s.monitor.flags.getLsbD 6 = true ∨
        ∃ (ch : Channel) (g : Gain), ∃ c ∈ (accumulator s ch g).held, trackLimit s < |(c : Int) - activePedestal s ch g|) ∧
      ((∀ (ch : Channel) (g : Gain), activePedestal t ch g = activePedestal s ch g) →
        t.settings.generation = s.settings.generation) ∧
      ((∃ (ch : Channel) (g : Gain), activePedestal t ch g ≠ activePedestal s ch g) →
        t.settings.generation = s.settings.generation + 1)

/-! ### Events of the blocks -/

/-- AUTO_KILL of a channel whose kill is due sets its killed flag, clears its count and reports ChannelKilled, and otherwise
changes nothing (R15; log 3). REVIVE at an Idle control port clears the killed flag and the fault count of a killed channel,
changes nothing for another, and is refused with RANGE above channel 7 (R16). When the response begins is read from R136 and R154
(log 13). -/
def Obligations.AutoKillAndRevive : Prop :=
  (∀ (ch : Channel) (s : State),
    let c := s.inputs.channels.get ch
    (c.killDue = true →
      ∃ t, exec (.autoKill ch) s = .next t ∧
        t = { s with inputs := t.inputs, monitor := s.monitor.occurrence .channelKilled } ∧
        t.inputs.pairs = s.inputs.pairs ∧
        t.inputs.channels.get ch = ⟨true, 0, c.hold, false⟩ ∧
        ∀ k, k ≠ ch → t.inputs.channels.get k = s.inputs.channels.get k) ∧
    (c.killDue = false → exec (.autoKill ch) s = .next s)) ∧
  ∀ (channel : BitVec 16) (s : State), ControlReady s →
    (8 ≤ channel.toNat →
      exec (.revive channel) s = .next
        { s with control := controlAnswering s [9#5 ++ (3#3 ++ (7#5 ++ (0#3 ++ (0#8 ++ 0#8))))] }) ∧
    ∀ ch : Channel, channel.toNat = ch.val →
      let c := s.inputs.channels.get ch
      let done := controlAnswering s [9#5 ++ (0#3 ++ (0#5 ++ (0#3 ++ (0#8 ++ 0#8))))]
      (c.killed = false → exec (.revive channel) s = .next { s with control := done }) ∧
      (c.killed = true →
        ∃ t, exec (.revive channel) s = .next t ∧ t = { s with inputs := t.inputs, control := done } ∧
          t.inputs.pairs = s.inputs.pairs ∧ t.inputs.channels.get ch = { c with killed := false, faults := 0 } ∧
          ∀ k, k ≠ ch → t.inputs.channels.get k = s.inputs.channels.get k)

/-- PEDESTAL_CANDIDATE of an accumulator with its 64th code waiting forms floor((sum + 8) / 16), holds it within the Track limit
of the active pedestal or drops it with PedestalJump, and restarts the accumulator; otherwise it changes nothing (R174; log 3, log
11). -/
def Obligations.PedestalCandidateEffect : Prop :=
  ∀ (ch : Channel) (g : Gain) (s : State),
    let a := accumulator s ch g
    (a.due = none → exec (.pedestalCandidate ch g) s = .next s) ∧
    ∀ code, a.due = some code →
      let candidate := (a.sum + code.toNat + 8) / 16
      ∃ t, exec (.pedestalCandidate ch g) s = .next t ∧
        t = { s with tracker := t.tracker, monitor := t.monitor } ∧
        (∀ k h, (k, h) ≠ (ch, g) → accumulator t k h = accumulator s k h) ∧
        (|(candidate : Int) - activePedestal s ch g| ≤ trackLimit s →
          accumulator t ch g = ⟨0, 0, some candidate, none⟩ ∧ t.monitor = s.monitor) ∧
        (trackLimit s < |(candidate : Int) - activePedestal s ch g| →
          accumulator t ch g = ⟨0, 0, a.held, none⟩ ∧ t.monitor = s.monitor.occurrence .pedestalJump)

/-- SCAN_STEP of a scan whose point has ended sets the count to 0 and steps the amplitude by R180; otherwise it changes nothing
(log 3, log 11). SCAN_START sets direction, first amplitude, count 0 and Running; SCAN_STOP sets Off; both are answered Done
(R179). That ScanStop keeps the direction is read from the rule's silence (log 27). When the response begins is read from R136 and
R154 (log 13). -/
def Obligations.ScanEffects : Prop :=
  (∀ s : State, (∀ a n, s.injection.scan ≠ .running a n true) → exec .scanStep s = .next s) ∧
  (∀ (s : State) (a n : Nat), s.injection.scan = .running a n true →
    let low := scanLow s
    let high := scanHigh s
    let size := scanStepSize s
    let stepped := fun (x : Scan) (d : Direction) =>
      { s with injection := { s.injection with scan := x, direction := d } }
    (s.injection.direction = .up → (a : Int) + size ≤ high →
      exec .scanStep s = .next (stepped (.running (max ((a : Int) + size) low).toNat 0 false) .up)) ∧
    (s.injection.direction = .down → low ≤ (a : Int) - size →
      exec .scanStep s = .next (stepped (.running (min ((a : Int) - size) high).toNat 0 false) .down)) ∧
    (s.injection.direction = .up → high < (a : Int) + size →
      (endPolicy s = 1 → exec .scanStep s = .next (stepped (.running low.toNat 0 false) .up)) ∧
      (endPolicy s = 2 →
        exec .scanStep s = .next (stepped (.running (clampTo low high ((a : Int) - size)).toNat 0 false) .down)) ∧
      (endPolicy s ≠ 1 → endPolicy s ≠ 2 →
        exec .scanStep s = .next (stepped (.done (clampTo low high a).toNat) .up))) ∧
    (s.injection.direction = .down → (a : Int) - size < low →
      (endPolicy s = 1 → exec .scanStep s = .next (stepped (.running high.toNat 0 false) .down)) ∧
      (endPolicy s = 2 →
        exec .scanStep s = .next (stepped (.running (clampTo low high ((a : Int) + size)).toNat 0 false) .up)) ∧
      (endPolicy s ≠ 1 → endPolicy s ≠ 2 →
        exec .scanStep s = .next (stepped (.done (clampTo low high a).toNat) .down)))) ∧
  ∀ s : State, ControlReady s →
    exec .scanStart s = .next
      { s with
        injection :=
          { s.injection with
            direction := if active s 70 0 = 1 then .down else .up
            scan := .running (if active s 70 0 = 1 then (scanHigh s).toNat else (scanLow s).toNat) 0 false }
        control := controlAnswering s [14#5 ++ (0#3 ++ (0#5 ++ (0#3 ++ (0#8 ++ 0#8))))] } ∧
    exec .scanStop s = .next
      { s with
        injection := { s.injection with scan := .off }
        control := controlAnswering s [15#5 ++ (0#3 ++ (0#5 ++ (0#3 ++ (0#8 ++ 0#8))))] }

/-- CAPTURE_BEGIN in an entered crossing that meets R80: the oldest entry leaves, the lowest Free slot takes its fields and the
active geometry, and a window too old for capture is Full and Late at once with LateCapture (R80 to R82, R85); a begin that is
possible enters its crossing first; where none is possible nothing changes (log 3). -/
def Obligations.CaptureBeginEffect : Prop :=
  (∀ s : State, captureCandidate (enterCrossing s) = none → exec .captureBegin s = .next s) ∧
  (∀ s : State, TimerWhole s → captureCandidate (enterCrossing s) ≠ none →
    exec .captureBegin s = exec .captureBegin (enterCrossing s) ∧ ∃ p f, EnteredAt (enterCrossing s) p f) ∧
  ∀ (s : State) (p : Position) (f : Forming) (e : Entry) (rest : List Entry) (slot : Fin 4), EnteredAt s p f →
    f.captureActed = false → s.capture = none → s.queue.entries = e :: rest → (∀ i ∈ e.intake, i < p.index) →
    findWindow s.windows slot = none → (∀ k, k < slot → findWindow s.windows k ≠ none) →
    let late := decide (e.diagnostic = false ∧ ∃ c ∈ e.accept, 255 < (p.index : Int) - (c - (windowPre s : Int)))
    exec .captureBegin s = .next
      { s with
        timer := { s.timer with forming := some { f with captureActed := true } }
        queue := { s.queue with entries := rest }
        capture := if late then none else some ⟨slot, 0⟩
        windows := s.windows ++
          [{ slot := slot, state := if late then .full else .filling, event := e.event, epoch := e.epoch,
             accept := e.accept, number := e.number, turnLow := e.turnLow, late := late, rawForced := e.rawForced,
             diagnostic := e.diagnostic, testMatch := e.testMatch, pre := windowPre s, post := windowPost s,
             tapStart := windowTapStart s, columns := [], present := Oct.all false }]
        monitor := if late then s.monitor.occurrence .lateCapture else s.monitor }

/-- CAPTURE_COMPLETE in an entered crossing copies the last column, makes the slot Full and the engine Idle; a completion that is
possible enters its crossing first; where no last column is next nothing changes (R83, R84; log 3). CROSSING_START of an entered
crossing copies position k of the window being captured, the column of crossing c − pre + k or an Empty one, sets the present
flags at position pre, and ends the capture at the last position; it changes no copied column of another slot. -/
def Obligations.CaptureCopies : Prop :=
  (∀ s : State, lastColumnNext (enterCrossing s) = false → exec .captureComplete s = .next s) ∧
  (∀ s : State, TimerWhole s → lastColumnNext (enterCrossing s) = true →
    exec .captureComplete s = exec .captureComplete (enterCrossing s) ∧ ∃ p f, EnteredAt (enterCrossing s) p f) ∧
  (∀ (s : State) (p : Position) (f : Forming) (slot : Fin 4) (k : Nat) (w : Window), EnteredAt s p f →
    f.captureActed = false → s.capture = some ⟨slot, k⟩ → findWindow s.windows slot = some w →
    w.pre + 1 + w.post = k + 1 →
    let column := match w.accept with
      | some c => readColumn s (c - (w.pre : Int) + (k : Int))
      | none => Column.empty
    exec .captureComplete s = .next
      { s with
        timer := { s.timer with forming := some { f with captureActed := true } }
        capture := none
        windows := updateWindow s.windows slot fun x =>
          { x with
            columns := x.columns ++ [column]
            present := if k = x.pre then column.cells.map fun c => decide (c.state ≠ .off) else x.present
            state := .full } }) ∧
  ∀ (pairs : Oct CodePair) (s : State) (p : Position) (f : Forming) (slot : Fin 4) (k : Nat) (w : Window),
    EnteredAt s p f → (s.windows.map fun x => x.slot).Nodup → s.capture = some ⟨slot, k⟩ →
    findWindow s.windows slot = some w → w.state = .filling → k < w.pre + 1 + w.post →
    ∃ t, exec (.crossingStart pairs) s = .next t ∧
      let column := match w.accept with
        | some c => readColumn t (c - (w.pre : Int) + (k : Int))
        | none => Column.empty
      t.capture = (if k + 1 = w.pre + 1 + w.post then none else some ⟨slot, k + 1⟩) ∧
      findWindow t.windows slot = some
        { w with
          columns := w.columns ++ [column]
          present := if k = w.pre then column.cells.map fun c => decide (c.state ≠ .off) else w.present
          state := if k + 1 = w.pre + 1 + w.post then .full else .filling } ∧
      ∀ (n : Fin 4) (x : Window), n ≠ slot → findWindow t.windows n = some x →
        ∃ y, findWindow s.windows n = some y ∧ x = { y with state := x.state }

/-- RECONSTRUCTION_BEGIN in an entered crossing with a Full slot and fewer than 64 descriptors: a Late slot and a Truncated event
yield a Ready descriptor without payload and a Free slot; an event that fits gets a Building descriptor with its reservation at
the fill point, its slot In use and the snapshot (R91 to R94, R119, R120); the look of the Idle engine enters its crossing first;
one that finds no event is marked as made (log 29); while the engine is Building or has looked nothing changes (log 3). -/
def Obligations.ReconstructionBeginEffect : Prop :=
  (∀ s : State, looksForEvent (enterCrossing s) = false → exec .reconstructionBegin s = .next s) ∧
  (∀ s : State, TimerWhole s → looksForEvent (enterCrossing s) = true →
    exec .reconstructionBegin s = exec .reconstructionBegin (enterCrossing s) ∧ ∃ p f, EnteredAt (enterCrossing s) p f) ∧
  (∀ (s : State) (p : Position) (f : Forming), EnteredAt s p f →
    (looksForEvent s = true ↔ s.recon = none ∧ f.reconstructionLooked = false) ∧
    (f.reconstructionLooked = false → s.recon = none → (64 ≤ s.buffer.ring.length ∨ earliestFull s.windows = none) →
      exec .reconstructionBegin s = .next
        { s with timer := { s.timer with forming := some { f with reconstructionLooked := true } } })) ∧
  ∀ (s : State) (p : Position) (f : Forming) (w : Window), EnteredAt s p f → f.reconstructionLooked = false →
    s.recon = none → s.buffer.ring.length < 64 → earliestFull s.windows = some w →
    let timer : Timer := { s.timer with forming := some { f with reconstructionLooked := true } }
    let set := fun number index : Nat => itemValue s.settings.active (8 * number + index)
    let length := w.pre + 1 + w.post
    let r := 4 + 8 * (3 + (length + 1) / 2)
    let descriptor := fun (x : DescriptorState) (truncated : Bool) (q : Option PayloadReference) =>
      ({ event := w.event, epoch := w.epoch, number := w.number, turnLow := w.turnLow,
         generation := s.settings.generation, windowLength := length, state := x, truncated := truncated, late := w.late,
         diagnostic := w.diagnostic, rawForced := w.rawForced, testMatch := w.testMatch, payload := q } : Descriptor)
    (w.late = true →
      exec .reconstructionBegin s = .next
        { s with
          timer := timer
          windows := s.windows.filter fun x => !(x.slot == w.slot)
          buffer := { s.buffer with ring := s.buffer.ring ++ [descriptor .ready false none] } }) ∧
    (w.late = false → 8192 - s.buffer.wordsInUse < r →
      exec .reconstructionBegin s = .next
        { s with
          timer := timer
          windows := s.windows.filter fun x => !(x.slot == w.slot)
          buffer := { s.buffer with ring := s.buffer.ring ++ [descriptor .ready true none] }
          monitor := s.monitor.occurrence .truncated }) ∧
    (w.late = false → r ≤ 8192 - s.buffer.wordsInUse →
      exec .reconstructionBegin s = .next
        { s with
          timer := timer
          windows := updateWindow s.windows w.slot fun x => { x with state := .inUse }
          buffer :=
            { s.buffer with
              ring := s.buffer.ring ++ [descriptor .building false (some ⟨s.buffer.fillPoint, r⟩)]
              fillPoint := (s.buffer.fillPoint + r) % 8192
              wordsInUse := s.buffer.wordsInUse + r }
          recon := some
            { slot := w.slot
              snapshot :=
                { channel := Oct.ofFn fun ch =>
                    { hgPedestal := set 3 ch.val, lgPedestal := set 4 ch.val, gainRatio := set 5 ch.val, a0 := set 8 ch.val,
                      a1 := set 9 ch.val, a2 := set 10 ch.val, a3 := set 11 ch.val, a4 := set 12 ch.val,
                      energyConstant := set 18 ch.val, b0 := set 13 ch.val, b1 := set 14 ch.val, b2 := set 15 ch.val,
                      b3 := set 16 ch.val, b4 := set 17 ch.val, quietThreshold := set 20 ch.val,
                      negativeThreshold := set 21 ch.val }
                  timeFloor := set 54 0, pileUpFloor := set 53 0, pileUpFraction := set 52 0,
                  keepAll := decide (set 57 0 = 1), rawAlways := decide (set 56 0 = 1) }
              generation := s.settings.generation, channel := 0, phase := .begun
              recordPosition := if w.testMatch.isSome then 4 else 3, records := 0 } })

/-- CROSSING_START of an entered crossing advances the current event by one crossing: the channel index stays through a channel's
two crossings, the first of which changes nothing else; in the second the channel's words are placed at the record position, the
count of records rising with a record; the placement of channel 7 falls due (R95, R96). Leaving the completion to a row of its own
is the model's choice (log 2). An event begun in this crossing waits for the next. -/
def Obligations.ChannelPlaced : Prop :=
  ∀ (pairs : Oct CodePair) (s : State) (p : Position) (f : Forming) (b : Building) (w : Window)
    (older : List Descriptor) (d : Descriptor) (q : PayloadReference), EnteredAt s p f → s.recon = some b →
    findWindow s.windows b.slot = some w → s.buffer.ring = older ++ [d] → d.payload = some q →
    (∀ c ∈ s.capture, c.slot ≠ b.slot) →
    ∃ t, exec (.crossingStart pairs) s = .next t ∧
      (f.reconstructionLooked = true → t.recon = some b ∧ t.buffer = s.buffer) ∧
      (f.reconstructionLooked = false →
        (b.phase = .begun → t.recon = some { b with phase := .first } ∧ t.buffer = s.buffer) ∧
        (b.phase = .placed → t.recon = some { b with channel := b.channel + 1, phase := .first } ∧ t.buffer = s.buffer) ∧
        (b.phase = .first → b.channel = 7 → t.recon = some { b with phase := .due } ∧ t.buffer = s.buffer) ∧
        (b.phase = .first → b.channel ≠ 7 →
          let ws := channelWords b.snapshot w b.channel
          t.recon = some
            { b with
              phase := .placed
              recordPosition := b.recordPosition + ws.length
              records := b.records + if ws = [] then 0 else 1 } ∧
          t.buffer = { s.buffer with words := placeWords s.buffer.words (q.start + b.recordPosition) ws }) ∧
        (b.phase = .due → t.recon = some b ∧ t.buffer = s.buffer))

/-- The stages of a present channel, from the snapshot and the window alone: amplitude (R100), energy (R101), time (R102), pile-up
(R103), class (R104), the values of class Fault (R105) and the qualifiers (R106). -/
def Obligations.PulseArithmetic : Prop :=
  ∀ (x : Snapshot) (w : Window) (ch : Channel),
    let k := x.channel.get ch
    let r := reconstructChannel x w ch
    let cell := fun i : Nat =>
      match w.columns[i]? with
      | some c => c.cells.get ch
      | none => ⟨.empty, 0, .high, none⟩
    let usable := fun i : Nat => (cell i).state = .good ∨ (cell i).state = .saturated
    let u := fun i : Nat =>
      match (cell i).gain with
      | .high => 4 * ((cell i).code.toNat : Int) - k.hgPedestal
      | .low => ((4 * ((cell i).code.toNat : Int) - k.lgPedestal) * k.gainRatio + 128) / 256
    let filtered := fun f0 f1 f2 f3 f4 : Int =>
      (f0 * u w.tapStart + f1 * u (w.tapStart + 1) + f2 * u (w.tapStart + 2) + f3 * u (w.tapStart + 3)
        + f4 * u (w.tapStart + 4) + 8192) / 16384
    let formed := filtered k.a0 k.a1 k.a2 k.a3 k.a4
    let a := max (-524288) (min formed 524287)
    let energy := (a * k.energyConstant + 32768) / 65536
    let e := max (-32768) (min energy 32767)
    let b := max (-524288) (min (filtered k.b0 k.b1 k.b2 k.b3 k.b4) 524287)
    let complete := ∀ i, i < 5 → usable (w.tapStart + i)
    (¬ complete → r.cls = .fault ∧ r.amplitude = 0 ∧ r.energy = 0 ∧ r.time = none ∧ r.pileUp = false) ∧
    (complete →
      r.amplitude = a ∧ r.energy = e ∧
      r.time
        = (if x.timeFloor ≠ 0 ∧ x.timeFloor ≤ a then some (max (-128) (min ((64 * b).tdiv a) 127)) else none) ∧
      (r.pileUp = true ↔ 0 < a ∧ ∃ i, i < w.pre + 1 + w.post ∧ (i < w.tapStart ∨ w.tapStart + 4 < i) ∧ usable i ∧
        x.pileUpFloor < u i ∧ x.pileUpFraction * a < u i * 256) ∧
      (((∃ i, i < 5 ∧ (cell (w.tapStart + i)).state = .saturated) ∨ 524287 < formed ∨ 32767 < energy) →
        r.cls = .overflow) ∧
      (¬ ((∃ i, i < 5 ∧ (cell (w.tapStart + i)).state = .saturated) ∨ 524287 < formed ∨ 32767 < energy) →
        r.cls = (if formed < -524288 ∨ energy < -32768 ∨ e < -k.negativeThreshold then .negative
          else if e ≤ k.quietThreshold then .quiet else .pulse))) ∧
    (r.lowGain = true ↔ ∃ i, i < 5 ∧ (cell (w.tapStart + i)).gain = .low) ∧
    (r.test = true ↔ w.testMatch ≠ none ∧ (cell w.pre).source = some .test) ∧
    (r.quietSource = true ↔ (cell w.pre).source = some .quiet)

/-- The words of a fragment: none for a channel that is absent or suppressed (R107); otherwise the three words of its record
(R109, R147) and, where R108 attaches them, its raw words (R110); and the header words of a descriptor (R125 to R127). -/
def Obligations.FragmentWords : Prop :=
  (∀ (x : Snapshot) (w : Window) (ch : Channel),
    let r := reconstructChannel x w ch
    let forced := w.rawForced || x.rawAlways
    let raw := decide (r.cls = .fault) || decide (r.cls = .overflow) || r.pileUp || forced
    let length := w.pre + 1 + w.post
    let sample := fun i : Nat =>
      match w.columns[i]? with
      | none => 6#16
      | some c =>
        let state : BitVec 2 := match (c.cells.get ch).state with
          | .good => 0
          | .saturated => 1
          | .fault => 2
          | .off => 3
          | .empty => 3
        (c.cells.get ch).code ++ (BitVec.ofBool (decide ((c.cells.get ch).gain = .low)) ++
          (state ++ BitVec.ofBool c.injection))
    let code : BitVec 3 := match r.cls with
      | .fault => 0
      | .overflow => 1
      | .negative => 2
      | .quiet => 3
      | .pulse => 4
    (w.present.get ch = false → channelWords x w ch = []) ∧
    (w.present.get ch = true → r.cls = .quiet → x.keepAll = false → forced = false → channelWords x w ch = []) ∧
    (w.present.get ch = true → (r.cls ≠ .quiet ∨ x.keepAll = true ∨ forced = true) →
      channelWords x w ch
        = [BitVec.ofNat 3 ch.val ++ (code ++ (BitVec.ofBool r.lowGain ++ (BitVec.ofBool r.pileUp ++
             (BitVec.ofBool r.test ++ (BitVec.ofBool r.quietSource ++ (BitVec.ofBool r.time.isSome ++
               (BitVec.ofNat 5 (if raw then length else 0) ++ (BitVec.ofInt 8 (r.time.getD 0) ++ 0#8)))))))),
           0#12 ++ BitVec.ofInt 20 r.amplitude, 0#16 ++ BitVec.ofInt 16 r.energy]
          ++ if raw then
               (List.range ((length + 1) / 2)).map fun i =>
                 sample (2 * i) ++ if 2 * i + 1 < length then sample (2 * i + 1) else 0#16
             else [])) ∧
  ∀ (d : Descriptor) (presence : Oct Bool) (records : Nat) (attention : Bool),
    headerWords d presence records attention
      = [1#4 ++ (d.epoch ++ d.event), d.number ++ (d.turnLow ++ d.generation),
         octBits presence ++ (BitVec.ofNat 4 records ++ (BitVec.ofNat 5 d.windowLength ++ (BitVec.ofBool d.truncated ++
           (BitVec.ofBool d.late ++ (BitVec.ofBool d.testMatch.isSome ++ (BitVec.ofBool d.diagnostic ++
             (BitVec.ofBool d.rawForced ++ (BitVec.ofBool attention ++ 0#9))))))))]
        ++ match d.testMatch with
           | none => []
           | some m => [BitVec.ofNat 10 m.amplitude ++ (BitVec.ofInt 2 m.offset ++ 0#20)]

/-- RECONSTRUCTION_COMPLETE in the last crossing of an event, before or after the start of crossing b + 16: channel 7 is placed,
the header written at the start of the reservation, the rest of the reservation returned, the descriptor Ready, the slot Free and
the engine Idle (R96, R121, R124); an event not in its last crossing is left as it is (log 3). -/
def Obligations.ReconstructionCompleteEffect : Prop :=
  (∀ s : State,
    (∀ b, s.recon = some b → b.phase ≠ .due ∧
      (b.channel ≠ 7 ∨ b.phase ≠ .first ∨ ∃ f, s.timer.forming = some f ∧ f.reconstructionLooked = true)) →
    exec .reconstructionComplete s = .next s) ∧
  (∀ (s : State) (b : Building), s.recon = some b → b.channel = 7 → b.phase = .first → s.timer.forming = none →
    exec .reconstructionComplete s = exec .reconstructionComplete (openCrossing s)) ∧
  ∀ (s : State) (b : Building) (w : Window) (older : List Descriptor) (d : Descriptor) (q : PayloadReference),
    s.recon = some b →
    (b.phase = .due ∨ b.channel = 7 ∧ b.phase = .first ∧
      ∃ f, s.timer.forming = some f ∧ f.reconstructionLooked = false) →
    findWindow s.windows b.slot = some w → s.buffer.ring = older ++ [d] → d.payload = some q →
    let ws := channelWords b.snapshot w b.channel
    let m := b.recordPosition + ws.length
    let header := headerWords d w.present (b.records + if ws.isEmpty then 0 else 1) (attention s)
    exec .reconstructionComplete s = .next
      { s with
        windows := s.windows.filter fun x => !(x.slot == b.slot)
        recon := none
        buffer :=
          { ring := older ++ [{ d with state := .ready, payload := some ⟨q.start, m⟩ }]
            words := placeWords (placeWords s.buffer.words (q.start + b.recordPosition) ws) q.start header
            fillPoint := (q.start + m) % 8192
            wordsInUse := s.buffer.wordsInUse - (q.length - m) } }

/-- Words placed in a canonical Payload Store, at most 8192 of them, are read back in order from word i, past 8191 to 0, and every
other word keeps its value (R119, R140); the header and the records of the eight channels of an event never exceed its reservation
(R94). -/
def Obligations.PayloadPlacement : Prop :=
  (∀ (b : EventBuffer) (i : Nat) (ws : List Word), Memory.wf (fun _ => (0 : Word)) b.words = true → ws.length ≤ 8192 →
    let t : EventBuffer := { b with words := placeWords b.words i ws }
    (∀ (k : Nat) (h : k < ws.length), payloadWord t (i + k) = ws[k]) ∧
    ∀ j, (∀ k, k < ws.length → (i + k) % 8192 ≠ j % 8192) → payloadWord t j = payloadWord b j) ∧
  ∀ (x : Snapshot) (w : Window),
    (if w.testMatch.isSome then 4 else 3) + (channels.map fun ch => (channelWords x w ch).length).sum
      ≤ 4 + 8 * (3 + (w.pre + 1 + w.post + 1) / 2)

/-- DRAIN_COMPLETE: a Stopping run whose chain is empty becomes Idle (R34); otherwise nothing changes, which is the model's choice
(log 3). -/
def Obligations.DrainCompleteEffect : Prop :=
  ∀ s : State,
    let empty := s.queue.entries = [] ∧ s.capture = none ∧ s.windows = [] ∧ s.recon = none
    (s.run.state = .stopping → empty →
      exec .drainComplete s = .next
        { s with run := { s.run with state := .idle }, trigger := { s.trigger with throttle := .off } }) ∧
    (s.run.state ≠ .stopping ∨ ¬ empty → exec .drainComplete s = .next s)

/-! ### The request links -/

/-- A request at an Idle port is executed as if the event rows of what the last updates have left due had been taken before it,
after which nothing is due; where nothing is due they change nothing. That these events may come in rows of their own is the
model's choice (log 11). A crossing is opened after the same events and a completion that is due (log 26), with the next index
(R21), the injection records of age 256 removed (R178) and no charge (log 10); a crossing being formed is not opened again (log
1). -/
def Obligations.RequestsFollowDueEvents : Prop :=
  (∀ (c : Instr) (s : State),
    ((encodeReadoutRequest c).isSome = true ∧ s.readout.response = none ∨
      (encodeControlRequest c).isSome = true ∧ s.control.response = none) →
    exec c s = exec c (runRows dueRows s)) ∧
  (∀ s : State, NothingDue (runRows dueRows s)) ∧
  (∀ s : State, NothingDue s → runRows dueRows s = s) ∧
  (∀ (s : State) (f : Forming), s.timer.forming = some f → openCrossing s = s) ∧
  ∀ s : State, s.timer.forming = none →
    let u := runRows (openingRows s) s
    let position : Position := match s.timer.position with
      | none => ⟨0, 0, 0⟩
      | some p => { p with index := p.index + 1 }
    openCrossing s
      = { u with
          timer :=
            { s.timer with
              position := some position
              forming := some ⟨false, false, false, false, false, false, false, false⟩ }
          injection :=
            { u.injection with
              fires := u.injection.fires.filter fun f => decide (position.index < f.index + 256)
              charge := Oct.all none } }

/-- RESPONSE_END of a response whose words have all been sent: the port is Idle with overrun count 0, and begins a Busy response
carrying the first overrun code and the count otherwise; the count returns to 0 (R136, R138, R154, R169). The row opens its
crossing (log 1), and where no response is over it changes nothing (log 3), which are the model's choices. -/
def Obligations.ResponseEndEffect : Prop :=
  ∀ s : State,
    let u := openCrossing s
    let ended := fun (p : Port) => p.waits = false ∧ ∃ r, p.response = some r ∧
      (r = .words [] ∨ ∃ st, r = .stream st ∧ st.ended = true)
    (ended s.readout →
      exec (.responseEnd .readout) s = .next
        { u with
          readout :=
            match s.readout.overrun with
            | none => { s.readout with response := none }
            | some o =>
              { s.readout with
                response := some (.words [12#4 ++ (BitVec.ofNat 4 o.code ++ (BitVec.ofNat 8 o.count ++ 0#16))])
                overrun := none } }) ∧
    (ended s.control →
      exec (.responseEnd .control) s = .next
        { u with
          control :=
            match s.control.overrun with
            | none => { s.control with response := none }
            | some o =>
              { s.control with
                response := some (.words
                  [BitVec.ofNat 5 o.code ++ (4#3 ++ (0#5 ++ (0#3 ++ (0#8 ++ BitVec.ofNat 8 o.count))))])
                overrun := none } }) ∧
    (¬ ended s.readout → exec (.responseEnd .readout) s = .next s) ∧
    (¬ ended s.control → exec (.responseEnd .control) s = .next s)

/-- FETCH at an Idle port: Empty, NotReady, or the stream of the oldest descriptor, which is Sent (R129, R130, R139). When the
response begins is read from R136 and R154 (log 13). -/
def Obligations.FetchAnswers : Prop :=
  ∀ s : State, ReadoutReady s →
    (s.buffer.ring = [] →
      exec .fetch s = .next { s with readout := readoutAnswering s (.words [8#4 ++ 0#28]) }) ∧
    ∀ d rest, s.buffer.ring = d :: rest →
      (d.state = .building →
        exec .fetch s = .next { s with readout := readoutAnswering s (.words [9#4 ++ (d.epoch ++ d.event)]) }) ∧
      (d.state ≠ .building →
        exec .fetch s = .next
          { s with
            buffer := { s.buffer with ring := { d with state := .sent } :: rest }
            readout := readoutAnswering s (.stream
              (match d.payload with
               | some q =>
                 { epoch := d.epoch, event := d.event, length := q.length, position := 0, source := .stored q.start,
                   ended := false, aborted := false }
               | none =>
                 { epoch := d.epoch, event := d.event, length := if d.testMatch.isSome then 4 else 3, position := 0,
                   source := .formed (headerWords d (Oct.all false) 0 (attention s)), ended := false,
                   aborted := false })) })

/-- RELEASE at an Idle port: the first row of R141 that applies; the Sent descriptor that is named is freed with its payload words
(R122, R141). -/
def Obligations.ReleaseAnswers : Prop :=
  ∀ (epoch : BitVec 4) (event : BitVec 24) (s : State), ReadoutReady s →
    let answered := fun w : Word => ∃ t, exec (.release epoch event) s = .next t ∧ t = { s with readout := t.readout } ∧
      t.readout.response = some (.words [w])
    (s.buffer.ring = [] → answered (8#4 ++ 0#28)) ∧
    ∀ d rest, s.buffer.ring = d :: rest →
      (d.state ≠ .sent → answered (11#4 ++ (10#4 ++ (2#4 ++ 0#20)))) ∧
      (d.state = .sent → d.epoch ≠ epoch ∨ d.event ≠ event → answered (11#4 ++ (11#4 ++ (2#4 ++ 0#20)))) ∧
      (d.state = .sent → d.epoch = epoch → d.event = event →
        ∃ t, exec (.release epoch event) s = .next t ∧
          t = { s with
                buffer :=
                  { s.buffer with
                    ring := rest
                    wordsInUse := s.buffer.wordsInUse - (match d.payload with | some q => q.length | none => 0) }
                readout := t.readout } ∧
          t.readout.response = some (.words [10#4 ++ (epoch ++ event)]))

/-- STATUS at an Idle port: the three words of the readout view; no other state changes (R142, R149). -/
def Obligations.StatusAnswers : Prop :=
  ∀ s : State, ReadoutReady s →
    ∃ t, exec .status s = .next t ∧ t = { s with readout := t.readout } ∧
      t.readout.response = some (.words
          [13#4 ++ (BitVec.ofNat 3 s.run.state.code ++ (BitVec.ofBool (decide (s.timer.sync = .synced)) ++
            (BitVec.ofBool (decide (s.trigger.throttle = .on)) ++ (BitVec.ofBool (attention s) ++
              (BitVec.ofNat 7 s.buffer.ring.length ++ (BitVec.ofNat 14 (8192 - s.buffer.wordsInUse) ++ 0#1)))))),
           (match s.buffer.ring with
            | [] => 0
            | d :: _ => 1#1 ++ (0#3 ++ (d.epoch ++ d.event))),
           s.run.epoch ++ (0#4 ++ s.queue.eventCounter)])

/-- A request with an unassigned code at an Idle port is answered Refused with RANGE and the code received, and changes nothing
else, on either request link (R137, R152); that an assigned code in such a row is answered alike is the model's choice (log 19).
When the response begins is read from R136 and R154 (log 13). A request taken while its port is Responding is not executed: it is
counted, the first such request leaves its code, and one RequestOverrun is reported (R138, R169). -/
def Obligations.RequestsRefused : Prop :=
  (∀ (code : BitVec 4) (s : State), ReadoutReady s →
    exec (.readoutUnassigned code) s = .next
      { s with readout := readoutAnswering s (.words [11#4 ++ (7#4 ++ (code ++ 0#20))]) }) ∧
  (∀ (code : BitVec 5) (s : State), ControlReady s →
    exec (.controlUnassigned code) s = .next
      { s with control := controlAnswering s [code ++ (3#3 ++ (7#5 ++ (0#3 ++ (0#8 ++ 0#8))))] }) ∧
  ∀ (c : Instr) (s : State),
    (∀ w, encodeReadoutRequest c = some w → s.readout.response ≠ none → (∀ o ∈ s.readout.overrun, o.count ≤ 255) →
      exec c s = .next
        { s with
          readout := { s.readout with overrun := some (overrunAfter s.readout.overrun (w.extractLsb' 28 4).toNat) }
          monitor := s.monitor.occurrence .requestOverrun }) ∧
    (∀ w v, encodeControlRequest c = some (w, v) → s.control.response ≠ none → (∀ o ∈ s.control.overrun, o.count ≤ 255) →
      exec c s = .next
        { s with
          control := { s.control with overrun := some (overrunAfter s.control.overrun (w.extractLsb' 27 5).toNat) }
          monitor := s.monitor.occurrence .requestOverrun })

/-! ### Control requests

Each at an Idle control port with nothing due; a Responding port is the subject of RequestsRefused, and what precedes a request
otherwise of RequestsFollowDueEvents. -/

/-- WRITE_ITEM: the first row of R158 that applies, for an item with one value, the items, places and ranges being those of R156
and R157; the Window group is checked by R159 and its four fields are clamped and stored together. When the response begins is
read from R136 and R154 (log 13). -/
def Obligations.WriteItemAnswers : Prop :=
  ∀ (item : BitVec 11) (index : BitVec 16) (value : Word) (s : State), ControlReady s →
    let refused := fun (k : BitVec 5) =>
      { s with control := controlAnswering s [1#5 ++ (3#3 ++ (k ++ (0#3 ++ (0#8 ++ 0#8))))] }
    let stored := fun (a : Nat) (v : Int) =>
      { s.settings with pending := setItemValue s.settings.pending a v, touched := touch a s.settings.touched }
    let table : List (Nat × Nat × Bool × Int × Int) :=
      [(1, 8, true, 0, 3), (2, 8, true, 0, 4), (3, 8, false, 0, 16383), (4, 8, false, 0, 16383), (5, 8, false, 256, 8191),
       (6, 8, false, 0, 4095), (7, 8, false, 0, 7), (8, 8, false, -32768, 32767), (9, 8, false, -32768, 32767),
       (10, 8, false, -32768, 32767), (11, 8, false, -32768, 32767), (12, 8, false, -32768, 32767),
       (13, 8, false, -32768, 32767), (14, 8, false, -32768, 32767), (15, 8, false, -32768, 32767),
       (16, 8, false, -32768, 32767), (17, 8, false, -32768, 32767), (18, 8, false, 0, 65535), (19, 8, false, 0, 65535),
       (20, 8, false, 0, 32767), (21, 8, false, 0, 32768), (22, 8, true, 0, 1), (23, 8, false, 0, 255),
       (32, 4, true, 0, 1), (33, 4, false, 0, 7), (34, 4, true, 0, 2), (48, 1, false, 256, 4096), (49, 1, false, 0, 4095),
       (50, 1, false, 0, 4095), (52, 1, false, 0, 255), (53, 1, false, 0, 524287), (54, 1, false, 0, 524287),
       (55, 1, false, 0, 65535), (56, 1, true, 0, 1), (57, 1, true, 0, 1), (58, 1, false, 1, 16), (59, 1, false, 0, 15),
       (60, 1, false, 1, 64), (61, 1, false, 0, 63), (62, 1, false, 0, 8191), (63, 1, false, 1, 8192),
       (64, 1, false, 0, 16383), (65, 1, false, 0, 63), (66, 1, false, 0, 1023), (67, 1, false, 0, 1023),
       (68, 1, false, 0, 1023), (69, 1, false, 1, 255), (70, 1, true, 0, 1), (71, 1, false, 1, 65535), (72, 1, true, 0, 2)]
    (item.toNat ≠ 51 → (∀ row ∈ table, row.1 ≠ item.toNat) → exec (.writeItem item index value) s = .next (refused 7)) ∧
    (∀ row ∈ table, row.1 = item.toNat →
      let places := row.2.1
      let enumerated := row.2.2.1
      let low := row.2.2.2.1
      let high := row.2.2.2.2
      let a := 8 * item.toNat + if places = 1 then 0 else index.toNat
      (places ≠ 1 → places ≤ index.toNat → exec (.writeItem item index value) s = .next (refused 7)) ∧
      (places = 1 ∨ index.toNat < places →
        (s.settings.take = .scheduled → exec (.writeItem item index value) s = .next (refused 4)) ∧
        (s.settings.take = .none →
          (enumerated = true → ¬ (low ≤ value.toInt ∧ value.toInt ≤ high) →
            exec (.writeItem item index value) s = .next (refused 7)) ∧
          (low ≤ value.toInt → value.toInt ≤ high →
            exec (.writeItem item index value) s = .next
              { s with
                settings := stored a value.toInt
                control := controlAnswering s [1#5 ++ (0#3 ++ (0#5 ++ (0#3 ++ (0#8 ++ 0#8))))] }) ∧
          (enumerated = false → value.toInt < low →
            exec (.writeItem item index value) s = .next
              { s with
                settings := stored a low
                control := controlAnswering s
                  [1#5 ++ (1#3 ++ (0#5 ++ (0#3 ++ (1#8 ++ 0#8)))), BitVec.ofInt 32 low] }) ∧
          (enumerated = false → high < value.toInt →
            exec (.writeItem item index value) s = .next
              { s with
                settings := stored a high
                control := controlAnswering s
                  [1#5 ++ (1#3 ++ (0#5 ++ (0#3 ++ (1#8 ++ 0#8)))), BitVec.ofInt 32 high] })))) ∧
    (item.toNat = 51 →
      (s.settings.take = .scheduled → exec (.writeItem item index value) s = .next (refused 4)) ∧
      (s.settings.take = .none → StoresCanonical s →
        let latency := (value.extractLsb' 24 8).toNat
        let pre := (value.extractLsb' 20 4).toNat
        let post := (value.extractLsb' 16 4).toNat
        let tap := (value.extractLsb' 12 4).toNat
        let inRange := 16 ≤ latency ∧ latency ≤ 240 ∧ pre ≤ 8 ∧ post ≤ 8 ∧ tap ≤ 11
        ∃ t, exec (.writeItem item index value) s = .next t ∧
          t = { s with settings := t.settings, control := t.control } ∧
          t.settings = { s.settings with pending := t.settings.pending, touched := touch 408 s.settings.touched } ∧
          itemValue t.settings.pending 408 = (max 16 (min latency 240) : Nat) ∧
          itemValue t.settings.pending 409 = (min pre 8 : Nat) ∧
          itemValue t.settings.pending 410 = (min post 8 : Nat) ∧
          itemValue t.settings.pending 411 = (min tap 11 : Nat) ∧
          (∀ x, x ≠ 408 → x ≠ 409 → x ≠ 410 → x ≠ 411 →
            itemValue t.settings.pending x = itemValue s.settings.pending x) ∧
          (inRange → t.control = controlAnswering s [1#5 ++ (0#3 ++ (0#5 ++ (0#3 ++ (0#8 ++ 0#8))))]) ∧
          (¬ inRange →
            t.control = controlAnswering s
              [1#5 ++ (1#3 ++ (0#5 ++ (0#3 ++ (1#8 ++ 0#8)))),
               BitVec.ofNat 8 (max 16 (min latency 240)) ++ (BitVec.ofNat 4 (min pre 8) ++
                 (BitVec.ofNat 4 (min post 8) ++ (BitVec.ofNat 4 (min tap 11) ++ 0#12)))])))

/-- READ_ITEM, READ_TAKE_STATE and CANCEL_TAKE: the named value of the named set (R160), the three words of the take state (R164),
and the withdrawal of a scheduled take (R163); nothing else changes. -/
def Obligations.SettingsReadsAndCancel : Prop :=
  ∀ s : State, ControlReady s →
    (∀ (item : BitVec 11) (index : BitVec 3) (wantsPending : Bool),
      let answered := fun ws : List Word => ∃ t, exec (.readItem item index wantsPending) s = .next t ∧
        t = { s with control := t.control } ∧ t.control.response = some (.words ws)
      let values := if wantsPending then s.settings.pending else s.settings.active
      let refused := answered [2#5 ++ (3#3 ++ (7#5 ++ (0#3 ++ (0#8 ++ 0#8))))]
      let value := fun a : Nat =>
        answered [2#5 ++ (0#3 ++ (0#5 ++ (0#3 ++ (1#8 ++ 0#8)))), BitVec.ofInt 32 (itemValue values a)]
      let number := item.toNat
      ((number = 0 ∨ 24 ≤ number ∧ number ≤ 31 ∨ 35 ≤ number ∧ number ≤ 47 ∨ 73 ≤ number) → refused) ∧
      (1 ≤ number → number ≤ 23 → value (8 * number + index.toNat)) ∧
      (32 ≤ number → number ≤ 34 → index.toNat < 4 → value (8 * number + index.toNat)) ∧
      (32 ≤ number → number ≤ 34 → 4 ≤ index.toNat → refused) ∧
      (48 ≤ number → number ≤ 72 → number ≠ 51 → value (8 * number)) ∧
      (number = 51 →
        answered [2#5 ++ (0#3 ++ (0#5 ++ (0#3 ++ (1#8 ++ 0#8)))),
          BitVec.ofInt 8 (itemValue values 408) ++ (BitVec.ofInt 4 (itemValue values 409) ++
            (BitVec.ofInt 4 (itemValue values 410) ++ (BitVec.ofInt 4 (itemValue values 411) ++ 0#12)))])) ∧
    (∃ t, exec .readTakeState s = .next t ∧ t = { s with control := t.control } ∧
      t.control.response = some (.words
        [5#5 ++ (0#3 ++ (0#5 ++ (0#3 ++ (3#8 ++ 0#8)))), if s.settings.take = .scheduled then 1 else 0,
         BitVec.ofNat 32 s.settings.touched.length, BitVec.ofNat 32 s.settings.generation.toNat])) ∧
    ∃ t, exec .cancelTake s = .next t ∧
      t = { s with settings := { s.settings with take := .none }, control := t.control } ∧
      t.control.response = some (.words [4#5 ++ (0#3 ++ (0#5 ++ (0#3 ++ (0#8 ++ 0#8))))])

/-- TAKE: the first row of R162 that applies, the seven conditions of R161 taken in order on the set the take would produce; an
accepted take is scheduled, and any other answer changes no setting. When the response begins is read from R136 and R154 (log 13).
-/
def Obligations.TakeAnswers : Prop :=
  ∀ s : State, ControlReady s →
    let answered := fun (w : Word) => exec .take s = .next { s with control := controlAnswering s [w] }
    let locked := ∃ item ∈ s.settings.touched, item / 8 = 48 ∨ item / 8 = 51 ∨ item / 8 = 2
    let v := itemValue (producedSet s.settings)
    let conditions : List Bool :=
      [decide (5 ≤ v 409 + 1 + v 410 ∧ v 409 + 1 + v 410 ≤ 16), decide (v 411 ≤ v 409 + 1 + v 410 - 5),
       decide (v 408 + v 409 ≤ 254), decide (v 410 < v 408),
       decide (v (8 * 49) ≤ v (8 * 50) ∧ v (8 * 50) < v (8 * 48)),
       decide (v (8 * 59) < v (8 * 58) ∧ v (8 * 61) < v (8 * 60) ∧ v (8 * 62) < v (8 * 63)),
       decide (v (8 * 67) ≤ v (8 * 68))]
    (StoresCanonical s → ∀ a, v a =
      if ∃ item ∈ s.settings.touched, a ∈ itemAddresses item then itemValue s.settings.pending a
      else itemValue s.settings.active a) ∧
    (s.settings.take = .scheduled → answered (3#5 ++ (3#3 ++ (4#5 ++ (0#3 ++ (0#8 ++ 0#8)))))) ∧
    (s.settings.take = .none → s.settings.touched = [] →
      answered (3#5 ++ (0#3 ++ (0#5 ++ (0#3 ++ (0#8 ++ 0#8)))))) ∧
    (s.settings.take = .none → locked → s.run.state ≠ .idle →
      answered (3#5 ++ (3#3 ++ (5#5 ++ (0#3 ++ (0#8 ++ 0#8)))))) ∧
    (s.settings.take = .none → s.settings.touched ≠ [] → (¬ locked ∨ s.run.state = .idle) →
      (∀ k, k < 7 → conditions[k]? = some false → (∀ j, j < k → conditions[j]? = some true) →
        answered (3#5 ++ (3#3 ++ (6#5 ++ (BitVec.ofNat 3 (k + 1) ++ (0#8 ++ 0#8)))))) ∧
      ((∀ k, k < 7 → conditions[k]? = some true) →
        exec .take s = .next
          { s with
            settings := { s.settings with take := .scheduled }
            control := controlAnswering s [3#5 ++ (2#3 ++ (0#5 ++ (0#3 ++ (0#8 ++ 0#8))))] }))

/-- START: the first condition of R28 that holds refuses it and changes nothing; with none the run state becomes Starting. When
the response begins is read from R136 and R154 (log 13). -/
def Obligations.StartAnswers : Prop :=
  ∀ s : State, ControlReady s →
    let refused := fun (k : BitVec 5) =>
      exec .start s = .next { s with control := controlAnswering s [6#5 ++ (3#3 ++ (k ++ (0#3 ++ (0#8 ++ 0#8))))] }
    (s.run.state ≠ .idle → refused 1) ∧
    (s.run.state = .idle → s.timer.sync = .unsynced → refused 2) ∧
    (s.run.state = .idle → s.timer.sync = .synced → s.pipeline.frozen = true → refused 3) ∧
    (s.run.state = .idle → s.timer.sync = .synced → s.pipeline.frozen = false → s.settings.take = .scheduled →
      refused 4) ∧
    (s.run.state = .idle → s.timer.sync = .synced → s.pipeline.frozen = false → s.settings.take = .none →
      exec .start s = .next
        { s with
          run := { s.run with state := .starting }
          trigger := { s.trigger with throttle := .off }
          control := controlAnswering s [6#5 ++ (0#3 ++ (0#5 ++ (0#3 ++ (0#8 ++ 0#8))))] })

/-- STOP is answered Done in every run state, with the effect R33 gives for it; a chain already empty takes it on to Idle (R34),
and the throttle is Off once the run has left Run (R48). When the response begins is read from R136 and R154 (log 13). -/
def Obligations.StopAnswers : Prop :=
  ∀ s : State, ControlReady s →
    let empty := s.queue.entries = [] ∧ s.capture = none ∧ s.windows = [] ∧ s.recon = none
    let becomes := fun (r : RunState) =>
      exec .stop s = .next
        { s with
          run := { s.run with state := r }
          trigger := { s.trigger with throttle := .off }
          control := controlAnswering s [7#5 ++ (0#3 ++ (0#5 ++ (0#3 ++ (0#8 ++ 0#8))))] }
    (s.run.state = .idle ∨ s.run.state = .stopping →
      exec .stop s = .next
        { s with control := controlAnswering s [7#5 ++ (0#3 ++ (0#5 ++ (0#3 ++ (0#8 ++ 0#8))))] }) ∧
    (s.run.state = .starting → becomes .idle) ∧
    (s.run.state = .run ∨ s.run.state = .lost ∨ s.run.state = .resyncing → empty → becomes .idle) ∧
    (s.run.state = .run ∨ s.run.state = .lost ∨ s.run.state = .resyncing → ¬ empty → becomes .stopping)

/-- RESTART returns every block to its starting state, keeps the setting sets, touched flags, generation, enables, payload words
and overrun counts, aborts a fragment stream, and is answered Done (R20, R26, R35, R68, R78, R88, R113, R134, R143, R168, R170,
R176, R178, R179, R185). That the delivered pairs and the outputs stay is R187 and the model's choice (log 14), and so is that a
crossing being formed is dropped (log 21); that no response waits any longer goes with it (log 13). -/
def Obligations.RestartEffect : Prop :=
  ∀ s : State, s.control.response = none →
    exec .restart s = .next
      { timer := ⟨none, .unsynced, none⟩
        run := ⟨.idle, 0, 0, 0⟩
        trigger := { s.trigger with throttle := .off }
        inputs := { s.inputs with channels := Oct.all ⟨false, 0, 0, false⟩ }
        pipeline := ⟨[], none, false⟩
        towers := Quad.all ⟨none, none, none⟩
        queue := ⟨[], 0, 0⟩
        capture := none
        windows := []
        recon := none
        buffer := { s.buffer with ring := [], fillPoint := 0, wordsInUse := 0 }
        readout :=
          { s.readout with
            waits := false
            response :=
              match s.readout.response with
              | some (.stream st) => if st.ended then some (.stream st) else some (.stream { st with aborted := true })
              | r => r }
        control :=
          { s.control with response := some (.words [8#5 ++ (0#3 ++ (0#5 ++ (0#3 ++ (0#8 ++ 0#8))))]), waits := false }
        settings := { s.settings with take := .none }
        tracker := Oct.all ⟨⟨0, 0, none, none⟩, ⟨0, 0, none, none⟩⟩
        injection := ⟨.off, .up, [], s.injection.charge⟩
        monitor := { s.monitor with flags := 0, counts := ⟨0, 0, 0, 0, 0, 0, 0, 0, 0, 0⟩ }
        pending := s.pending }

/-- READ_FAULTS answers Done with the 35 words of the control view in the order of R183 and changes nothing. -/
def Obligations.ReadFaultsAnswers : Prop :=
  ∀ s : State, ControlReady s →
    let absent : Word := 0xffffffff
    let bit := fun b : Bool => if b then (1 : Word) else 0
    let oldest := s.buffer.ring.head?
    ∃ t, exec .readFaults s = .next t ∧ t = { s with control := t.control } ∧
      t.control.response = some (.words
          ((10#5 ++ (0#3 ++ (0#5 ++ (0#3 ++ (35#8 ++ 0#8))))) ::
           [s.monitor.flags.setWidth 32, s.monitor.enables.setWidth 32,
            BitVec.ofNat 32 s.monitor.counts.acceptOverflow, BitVec.ofNat 32 s.monitor.counts.linkError,
            BitVec.ofNat 32 s.monitor.counts.turnSlip, BitVec.ofNat 32 s.monitor.counts.lateCapture,
            BitVec.ofNat 32 s.monitor.counts.truncated, BitVec.ofNat 32 s.monitor.counts.towerInvalid,
            BitVec.ofNat 32 s.monitor.counts.pedestalJump, BitVec.ofNat 32 s.monitor.counts.channelKilled,
            BitVec.ofNat 32 s.monitor.counts.converterFault, BitVec.ofNat 32 s.monitor.counts.requestOverrun,
            bit (decide (s.monitor.flags &&& s.monitor.enables ≠ 0)),
            (match s.run.state with
             | .idle => 0 | .starting => 1 | .run => 2 | .lost => 3 | .resyncing => 4 | .stopping => 5),
            bit (decide (s.timer.sync = .synced)), bit s.pipeline.frozen, bit (decide (s.trigger.throttle = .on)),
            (match s.timer.position with | some p => BitVec.ofNat 32 p.number | none => absent),
            (match s.timer.position with | some p => p.turnCount.setWidth 32 | none => absent),
            s.run.epoch.setWidth 32, s.queue.eventCounter.setWidth 32, s.queue.diagnosticCounter.setWidth 32,
            BitVec.ofNat 32 s.run.ignored, BitVec.ofNat 32 s.run.discarded, s.settings.generation.setWidth 32,
            (octBits (s.inputs.channels.map fun c => c.killed)).setWidth 32,
            BitVec.ofNat 32 s.queue.entries.length, BitVec.ofNat 32 s.buffer.ring.length,
            BitVec.ofNat 32 (8192 - s.buffer.wordsInUse), BitVec.ofNat 32 s.buffer.fillPoint,
            (match oldest with | some d => d.event.setWidth 32 | none => absent),
            (match oldest with | some d => d.epoch.setWidth 32 | none => absent),
            (match oldest with
             | some d => (match d.state with | .building => 0 | .ready => 1 | .sent => 2)
             | none => absent),
            (match s.injection.scan with | .off => 0 | .running _ _ _ => 1 | .done _ => 2),
            BitVec.ofNat 32 (match s.injection.scan with
              | .off => baseAmplitude s | .running a _ _ => a | .done a => a)]))

/-- CLEAR_CAUSES, SET_ENABLES and CLEAR_COUNTS are answered Done and change the flags named, the enables, and the counts; bits 15
to 10 of a cause set are ignored (R184). -/
def Obligations.FaultRequestEffects : Prop :=
  ∀ (causeBits : BitVec 16) (s : State), ControlReady s →
    (∃ t, exec (.clearCauses causeBits) s = .next t ∧
      t = { s with monitor := { s.monitor with flags := t.monitor.flags }, control := t.control } ∧
      t.control.response = some (.words [11#5 ++ (0#3 ++ (0#5 ++ (0#3 ++ (0#8 ++ 0#8))))]) ∧
      ∀ k, k < 10 → t.monitor.flags.getLsbD k = (s.monitor.flags.getLsbD k && !causeBits.getLsbD k)) ∧
    (∃ t, exec (.setEnables causeBits) s = .next t ∧
      t = { s with monitor := { s.monitor with enables := t.monitor.enables }, control := t.control } ∧
      t.control.response = some (.words [12#5 ++ (0#3 ++ (0#5 ++ (0#3 ++ (0#8 ++ 0#8))))]) ∧
      ∀ k, k < 10 → t.monitor.enables.getLsbD k = causeBits.getLsbD k) ∧
    ∃ t, exec .clearCounts s = .next t ∧
      t = { s with monitor := { s.monitor with counts := ⟨0, 0, 0, 0, 0, 0, 0, 0, 0, 0⟩ }, control := t.control } ∧
      t.control.response = some (.words [13#5 ++ (0#3 ++ (0#5 ++ (0#3 ++ (0#8 ++ 0#8))))])

/-- FREEZE in Idle sets the frozen flag, in any other run state it is refused NOT_IDLE; UNFREEZE clears the flag and the tower
histories when frozen, and changes nothing otherwise (R17, R19, R67, R186). When the response begins is read from R136 and R154
(log 13). -/
def Obligations.FreezeAnswers : Prop :=
  ∀ s : State, ControlReady s →
    (s.run.state ≠ .idle →
      exec .freeze s = .next
        { s with control := controlAnswering s [16#5 ++ (3#3 ++ (1#5 ++ (0#3 ++ (0#8 ++ 0#8))))] }) ∧
    (s.run.state = .idle →
      exec .freeze s = .next
        { s with
          pipeline := { s.pipeline with frozen := true }
          control := controlAnswering s [16#5 ++ (0#3 ++ (0#5 ++ (0#3 ++ (0#8 ++ 0#8))))] }) ∧
    (s.pipeline.frozen = true →
      exec .unfreeze s = .next
        { s with
          pipeline := { s.pipeline with frozen := false }
          towers := Quad.all ⟨none, none, none⟩
          control := controlAnswering s [17#5 ++ (0#3 ++ (0#5 ++ (0#3 ++ (0#8 ++ 0#8))))] }) ∧
    (s.pipeline.frozen = false →
      exec .unfreeze s = .next
        { s with control := controlAnswering s [17#5 ++ (0#3 ++ (0#5 ++ (0#3 ++ (0#8 ++ 0#8))))] })

/-- PEEK_INPUT, READ_CELL and READ_COLUMN answer with the delivered pair, or with the column at an age of the write head, Empty
when it is not held, and are refused with RANGE above channel 7 or age 255; they change nothing (R12, R18, R187). When the
response begins is read from R136 and R154 (log 13). The cell words are those of R151. -/
def Obligations.PipelineReadsAnswer : Prop :=
  ∀ s : State, ControlReady s →
    let word := fun x : Cell =>
      x.code ++ (BitVec.ofBool (decide (x.gain = .low)) ++
        ((match x.state with | .good => 0#3 | .saturated => 1#3 | .fault => 2#3 | .off => 3#3 | .empty => 4#3) ++
          ((match x.source with | some .normal => 0#2 | some .test => 1#2 | some .quiet => 2#2 | none => 3#2) ++ 0#14)))
    let answered := fun (c : Instr) (ws : List Word) => exec c s = .next { s with control := controlAnswering s ws }
    let held := fun (a : Nat) (column : Column) =>
      ∃ h r, s.pipeline.head = some h ∧
        (if s.pipeline.frozen then s.pipeline.head else s.timer.position.map fun p => p.index) = some r ∧ a ≤ h ∧
        h - a ≤ r ∧ r - (h - a) ≤ 255 ∧ storedColumn s.pipeline ((h - a) % 256) = ⟨column, some (h - a)⟩
    let isAt := fun (a : Nat) (column : Column) =>
      held a column ∨ (¬ ∃ c, held a c) ∧ column = ⟨Oct.all ⟨.empty, 0, .high, none⟩, 0, 0, false, false⟩
    (∀ channel : BitVec 16,
      (8 ≤ channel.toNat → answered (.peekInput channel) [18#5 ++ (3#3 ++ (7#5 ++ (0#3 ++ (0#8 ++ 0#8))))]) ∧
      ∀ ch : Channel, channel.toNat = ch.val →
        (s.inputs.pairs = none →
          answered (.peekInput channel)
            [18#5 ++ (0#3 ++ (0#5 ++ (0#3 ++ (4#8 ++ 0#8)))), 0xffffffff, 0xffffffff, 0xffffffff, 0xffffffff]) ∧
        ∀ pairs, s.inputs.pairs = some pairs →
          answered (.peekInput channel)
            [18#5 ++ (0#3 ++ (0#5 ++ (0#3 ++ (4#8 ++ 0#8)))),
             (pairs.get ch).hg.setWidth 32, if (pairs.get ch).hgFault then 1 else 0,
             (pairs.get ch).lg.setWidth 32, if (pairs.get ch).lgFault then 1 else 0]) ∧
    (∀ (age : BitVec 11) (channel : BitVec 16), 256 ≤ age.toNat ∨ 8 ≤ channel.toNat →
      answered (.readCell age channel) [19#5 ++ (3#3 ++ (7#5 ++ (0#3 ++ (0#8 ++ 0#8))))]) ∧
    (∀ age : BitVec 11, 256 ≤ age.toNat →
      answered (.readColumn age) [21#5 ++ (3#3 ++ (7#5 ++ (0#3 ++ (0#8 ++ 0#8))))]) ∧
    ∀ (age : BitVec 11) (column : Column), age.toNat < 256 → isAt age.toNat column →
      (∀ (channel : BitVec 16) (ch : Channel), channel.toNat = ch.val →
        answered (.readCell age channel)
          [19#5 ++ (0#3 ++ (0#5 ++ (0#3 ++ (1#8 ++ 0#8)))), word (column.cells.get ch)]) ∧
      answered (.readColumn age)
        ((21#5 ++ (0#3 ++ (0#5 ++ (0#3 ++ (9#8 ++ 0#8))))) ::
         (column.number ++ (column.turnLow ++ (BitVec.ofBool column.gap ++ (BitVec.ofBool column.injection ++ 0#6)))) ::
         [word column.cells.c0, word column.cells.c1, word column.cells.c2, word column.cells.c3,
          word column.cells.c4, word column.cells.c5, word column.cells.c6, word column.cells.c7])

/-- WRITE_CELL is refused NOT_FROZEN while the pipeline writes, then with RANGE for an age, channel or cell word out of range;
otherwise it replaces one record of the slot of crossing h − a, or of crossing 0 − a without a write head, and leaves every other
record, the metadata and the index (R18, R188); which words are records is R152. -/
def Obligations.WriteCellAnswers : Prop :=
  ∀ (age : BitVec 11) (channel : BitVec 16) (cell : Word) (s : State), ControlReady s →
    let refused := fun (k : BitVec 5) =>
      ∃ t, exec (.writeCell age channel cell) s = .next t ∧ t = { s with control := t.control } ∧
        t.control.response = some (.words [20#5 ++ (3#3 ++ (k ++ (0#3 ++ (0#8 ++ 0#8))))])
    let code := cell.extractLsb' 20 12
    let low := cell.getLsbD 19
    let state := (cell.extractLsb' 16 3).toNat
    let source : Option Source := match (cell.extractLsb' 14 2).toNat with
      | 0 => some .normal
      | 1 => some .test
      | 2 => some .quiet
      | _ => none
    let record : Option Cell :=
      if state = 0 ∧ source ≠ none then some ⟨.good, code, if low then .low else .high, source⟩
      else if state = 1 ∧ source ≠ none ∧ code = 4095 ∧ low = true then some ⟨.saturated, 4095, .low, source⟩
      else if state = 2 ∧ source ≠ none ∧ low = true then some ⟨.fault, code, .low, source⟩
      else if state = 3 then some ⟨.off, 0, .high, none⟩
      else if state = 4 then some ⟨.empty, 0, .high, none⟩
      else none
    (s.pipeline.frozen = false → refused 8) ∧
    (s.pipeline.frozen = true → 256 ≤ age.toNat ∨ 8 ≤ channel.toNat ∨ record = none → refused 7) ∧
    (s.pipeline.frozen = true → age.toNat < 256 → StoresCanonical s →
      ∀ (ch : Channel) (x : Cell), channel.toNat = ch.val → record = some x →
        let slot := ((match s.pipeline.head with | some h => (h : Int) | none => 0) - (age.toNat : Int)) % 256
        let old := storedColumn s.pipeline slot.toNat
        ∃ t, exec (.writeCell age channel cell) s = .next t ∧
          t = { s with pipeline := { s.pipeline with columns := t.pipeline.columns }, control := t.control } ∧
          t.control.response = some (.words [20#5 ++ (0#3 ++ (0#5 ++ (0#3 ++ (0#8 ++ 0#8))))]) ∧
          storedColumn t.pipeline slot.toNat
            = { old with column := { old.column with cells := old.column.cells.set ch x } } ∧
          ∀ k, k ≠ slot.toNat → storedColumn t.pipeline k = storedColumn s.pipeline k)

/-- READ_WINDOW_SLOT, READ_DESCRIPTOR, READ_PAYLOAD and READ_TRACKER answer with the words R189 lists, are refused with RANGE
beyond their index ranges, and change nothing. When the response begins is read from R136 and R154 (log 13). The column and cell
words are those of R151. -/
def Obligations.UnitReadsAnswer : Prop :=
  ∀ s : State, ControlReady s →
    let word := fun x : Cell =>
      x.code ++ (BitVec.ofBool (decide (x.gain = .low)) ++
        ((match x.state with | .good => 0#3 | .saturated => 1#3 | .fault => 2#3 | .off => 3#3 | .empty => 4#3) ++
          ((match x.source with | some .normal => 0#2 | some .test => 1#2 | some .quiet => 2#2 | none => 3#2) ++ 0#14)))
    let columnWord := fun x : Column =>
      [x.number ++ (x.turnLow ++ (BitVec.ofBool x.gap ++ (BitVec.ofBool x.injection ++ 0#6))), word x.cells.c0,
       word x.cells.c1, word x.cells.c2, word x.cells.c3, word x.cells.c4, word x.cells.c5, word x.cells.c6,
       word x.cells.c7]
    let answered := fun (c : Instr) (ws : List Word) => exec c s = .next { s with control := controlAnswering s ws }
    let absent : Word := 0xffffffff
    let counted := fun (code : BitVec 5) (ws : List Word) =>
      (code ++ (0#3 ++ (0#5 ++ (0#3 ++ (BitVec.ofNat 8 ws.length ++ 0#8))))) :: ws
    (∀ slot : BitVec 11,
      (4 ≤ slot.toNat → answered (.readWindowSlot slot) [22#5 ++ (3#3 ++ (7#5 ++ (0#3 ++ (0#8 ++ 0#8))))]) ∧
      ∀ n : Fin 4, slot.toNat = n.val →
        (findWindow s.windows n = none → answered (.readWindowSlot slot) (counted 22 [0])) ∧
        ∀ w, findWindow s.windows n = some w →
          answered (.readWindowSlot slot) (counted 22
            ([(match w.state with | .filling => 1 | .full => 2 | .inUse => 3), w.event.setWidth 32, w.epoch.setWidth 32,
              w.number.setWidth 32, w.turnLow.setWidth 32,
              0#29 ++ (BitVec.ofBool w.diagnostic ++ (BitVec.ofBool w.rawForced ++ BitVec.ofBool w.late)),
              (match w.testMatch with | some m => BitVec.ofNat 32 m.amplitude | none => absent),
              (match w.testMatch with | some m => BitVec.ofInt 32 m.offset | none => absent),
              BitVec.ofNat 32 w.pre, BitVec.ofNat 32 w.post, BitVec.ofNat 32 w.tapStart,
              BitVec.ofNat 32 (w.pre + 1 + w.post), (octBits w.present).setWidth 32,
              BitVec.ofNat 32 w.columns.length] ++ w.columns.flatMap columnWord))) ∧
    (∀ index : BitVec 11,
      (64 ≤ index.toNat → answered (.readDescriptor index) [23#5 ++ (3#3 ++ (7#5 ++ (0#3 ++ (0#8 ++ 0#8))))]) ∧
      (index.toNat < 64 → s.buffer.ring[index.toNat]? = none → answered (.readDescriptor index) (counted 23 [0])) ∧
      ∀ d, index.toNat < 64 → s.buffer.ring[index.toNat]? = some d →
        answered (.readDescriptor index) (counted 23
          [1, d.event.setWidth 32, d.epoch.setWidth 32, d.number.setWidth 32, d.turnLow.setWidth 32,
           d.generation.setWidth 32, BitVec.ofNat 32 d.windowLength,
           (match d.state with | .building => 0 | .ready => 1 | .sent => 2),
           0#27 ++ (BitVec.ofBool d.rawForced ++ (BitVec.ofBool d.diagnostic ++ (BitVec.ofBool d.testMatch.isSome ++
             (BitVec.ofBool d.late ++ BitVec.ofBool d.truncated)))),
           (match d.testMatch with | some m => BitVec.ofNat 32 m.amplitude | none => absent),
           (match d.testMatch with | some m => BitVec.ofInt 32 m.offset | none => absent),
           (match d.payload with | some q => BitVec.ofNat 32 q.start | none => absent),
           (match d.payload with | some q => BitVec.ofNat 32 q.length | none => absent)])) ∧
    (∀ word : BitVec 16,
      (8192 ≤ word.toNat → answered (.readPayload word) [24#5 ++ (3#3 ++ (7#5 ++ (0#3 ++ (0#8 ++ 0#8))))]) ∧
      (word.toNat < 8192 → s.buffer.fillPoint < 8192 → s.buffer.wordsInUse ≤ 8192 →
        answered (.readPayload word) (counted 24
          [payloadWord s.buffer word.toNat,
           if ∃ k, k < s.buffer.wordsInUse ∧ (word.toNat + k + 1) % 8192 = s.buffer.fillPoint then 1 else 0]))) ∧
    ∀ channel : BitVec 16,
      (8 ≤ channel.toNat → answered (.readTracker channel) [25#5 ++ (3#3 ++ (7#5 ++ (0#3 ++ (0#8 ++ 0#8))))]) ∧
      ∀ ch : Channel, channel.toNat = ch.val →
        let held := fun (a : Accumulator) => match a.held with | some c => BitVec.ofNat 32 c | none => absent
        let hg := (s.tracker.get ch).hg
        let lg := (s.tracker.get ch).lg
        answered (.readTracker channel) (counted 25
          [BitVec.ofNat 32 hg.sum, BitVec.ofNat 32 hg.count, held hg, BitVec.ofNat 32 lg.sum, BitVec.ofNat 32 lg.count,
           held lg])

/-- DIAGNOSTIC_ACCEPT: the first row of R79 that applies; an accepted one appends a diagnostic entry for crossing h − a with the
next diagnostic number, and changes nothing else. An entry made before the first crossing start has no intake index (log 12). -/
def Obligations.DiagnosticAcceptAnswers : Prop :=
  ∀ (age : BitVec 11) (s : State), ControlReady s →
    let refused := fun (k : BitVec 5) =>
      ∃ t, exec (.diagnosticAccept age) s = .next t ∧ t = { s with control := t.control } ∧
        t.control.response = some (.words [26#5 ++ (3#3 ++ (k ++ (0#3 ++ (0#8 ++ 0#8))))])
    let outside := age.toNat < windowPost s ∨ 255 < age.toNat + windowPre s
    (s.pipeline.frozen = false → refused 8) ∧
    (s.pipeline.frozen = true → outside → refused 7) ∧
    (s.pipeline.frozen = true → ¬ outside → 16 ≤ s.queue.entries.length → refused 9) ∧
    (s.pipeline.frozen = true → ¬ outside → s.queue.entries.length < 16 →
      let c : Option Int := s.pipeline.head.map fun h => (h : Int) - (age.toNat : Int)
      let column := match c with
        | some x => readColumn s x
        | none => Column.empty
      ∃ t, exec (.diagnosticAccept age) s = .next t ∧
        t.control.response = some (.words [26#5 ++ (0#3 ++ (0#5 ++ (0#3 ++ (0#8 ++ 0#8))))]) ∧
        t = { s with
          queue :=
            { s.queue with
              entries := s.queue.entries ++
                [{ event := s.queue.diagnosticCounter, epoch := s.run.epoch, accept := c, number := column.number,
                   turnLow := column.turnLow, intake := s.timer.position.map fun p => p.index,
                   rawForced := decide (rawPrescale s ≠ 0 ∧ s.queue.diagnosticCounter.toNat % rawPrescale s = 0),
                   diagnostic := true
                   testMatch := match c with
                     | some x => testMatchAt s x
                     | none => none }]
              diagnosticCounter := s.queue.diagnosticCounter + 1 }
          control := t.control })
end

