-- ==== Sys2Proof/Laws/State.lean ====
section
/-! SUPPORT. One lemma per field and update of State, so that no proof unfolds a record update. -/

namespace Sys2Proof.Machine

@[simp] theorem State.setTimer_timer (s : State) (v) : (s.setTimer v).timer = v := rfl
@[simp] theorem State.setTimer_run (s : State) (v) : (s.setTimer v).run = s.run := rfl
@[simp] theorem State.setTimer_trigger (s : State) (v) : (s.setTimer v).trigger = s.trigger := rfl
@[simp] theorem State.setTimer_inputs (s : State) (v) : (s.setTimer v).inputs = s.inputs := rfl
@[simp] theorem State.setTimer_pipeline (s : State) (v) : (s.setTimer v).pipeline = s.pipeline := rfl
@[simp] theorem State.setTimer_towers (s : State) (v) : (s.setTimer v).towers = s.towers := rfl
@[simp] theorem State.setTimer_queue (s : State) (v) : (s.setTimer v).queue = s.queue := rfl
@[simp] theorem State.setTimer_capture (s : State) (v) : (s.setTimer v).capture = s.capture := rfl
@[simp] theorem State.setTimer_windows (s : State) (v) : (s.setTimer v).windows = s.windows := rfl
@[simp] theorem State.setTimer_recon (s : State) (v) : (s.setTimer v).recon = s.recon := rfl
@[simp] theorem State.setTimer_buffer (s : State) (v) : (s.setTimer v).buffer = s.buffer := rfl
@[simp] theorem State.setTimer_readout (s : State) (v) : (s.setTimer v).readout = s.readout := rfl
@[simp] theorem State.setTimer_control (s : State) (v) : (s.setTimer v).control = s.control := rfl
@[simp] theorem State.setTimer_settings (s : State) (v) : (s.setTimer v).settings = s.settings := rfl
@[simp] theorem State.setTimer_tracker (s : State) (v) : (s.setTimer v).tracker = s.tracker := rfl
@[simp] theorem State.setTimer_injection (s : State) (v) : (s.setTimer v).injection = s.injection := rfl
@[simp] theorem State.setTimer_monitor (s : State) (v) : (s.setTimer v).monitor = s.monitor := rfl
@[simp] theorem State.setTimer_pending (s : State) (v) : (s.setTimer v).pending = s.pending := rfl
@[simp] theorem State.setTimer_same (s : State) : s.setTimer s.timer = s := rfl
@[simp] theorem State.setTimer_setTimer (s : State) (v w) : (s.setTimer v).setTimer w = s.setTimer w := rfl

@[simp] theorem State.setRun_timer (s : State) (v) : (s.setRun v).timer = s.timer := rfl
@[simp] theorem State.setRun_run (s : State) (v) : (s.setRun v).run = v := rfl
@[simp] theorem State.setRun_trigger (s : State) (v) : (s.setRun v).trigger = s.trigger := rfl
@[simp] theorem State.setRun_inputs (s : State) (v) : (s.setRun v).inputs = s.inputs := rfl
@[simp] theorem State.setRun_pipeline (s : State) (v) : (s.setRun v).pipeline = s.pipeline := rfl
@[simp] theorem State.setRun_towers (s : State) (v) : (s.setRun v).towers = s.towers := rfl
@[simp] theorem State.setRun_queue (s : State) (v) : (s.setRun v).queue = s.queue := rfl
@[simp] theorem State.setRun_capture (s : State) (v) : (s.setRun v).capture = s.capture := rfl
@[simp] theorem State.setRun_windows (s : State) (v) : (s.setRun v).windows = s.windows := rfl
@[simp] theorem State.setRun_recon (s : State) (v) : (s.setRun v).recon = s.recon := rfl
@[simp] theorem State.setRun_buffer (s : State) (v) : (s.setRun v).buffer = s.buffer := rfl
@[simp] theorem State.setRun_readout (s : State) (v) : (s.setRun v).readout = s.readout := rfl
@[simp] theorem State.setRun_control (s : State) (v) : (s.setRun v).control = s.control := rfl
@[simp] theorem State.setRun_settings (s : State) (v) : (s.setRun v).settings = s.settings := rfl
@[simp] theorem State.setRun_tracker (s : State) (v) : (s.setRun v).tracker = s.tracker := rfl
@[simp] theorem State.setRun_injection (s : State) (v) : (s.setRun v).injection = s.injection := rfl
@[simp] theorem State.setRun_monitor (s : State) (v) : (s.setRun v).monitor = s.monitor := rfl
@[simp] theorem State.setRun_pending (s : State) (v) : (s.setRun v).pending = s.pending := rfl
@[simp] theorem State.setRun_same (s : State) : s.setRun s.run = s := rfl
@[simp] theorem State.setRun_setRun (s : State) (v w) : (s.setRun v).setRun w = s.setRun w := rfl

@[simp] theorem State.setTrigger_timer (s : State) (v) : (s.setTrigger v).timer = s.timer := rfl
@[simp] theorem State.setTrigger_run (s : State) (v) : (s.setTrigger v).run = s.run := rfl
@[simp] theorem State.setTrigger_trigger (s : State) (v) : (s.setTrigger v).trigger = v := rfl
@[simp] theorem State.setTrigger_inputs (s : State) (v) : (s.setTrigger v).inputs = s.inputs := rfl
@[simp] theorem State.setTrigger_pipeline (s : State) (v) : (s.setTrigger v).pipeline = s.pipeline := rfl
@[simp] theorem State.setTrigger_towers (s : State) (v) : (s.setTrigger v).towers = s.towers := rfl
@[simp] theorem State.setTrigger_queue (s : State) (v) : (s.setTrigger v).queue = s.queue := rfl
@[simp] theorem State.setTrigger_capture (s : State) (v) : (s.setTrigger v).capture = s.capture := rfl
@[simp] theorem State.setTrigger_windows (s : State) (v) : (s.setTrigger v).windows = s.windows := rfl
@[simp] theorem State.setTrigger_recon (s : State) (v) : (s.setTrigger v).recon = s.recon := rfl
@[simp] theorem State.setTrigger_buffer (s : State) (v) : (s.setTrigger v).buffer = s.buffer := rfl
@[simp] theorem State.setTrigger_readout (s : State) (v) : (s.setTrigger v).readout = s.readout := rfl
@[simp] theorem State.setTrigger_control (s : State) (v) : (s.setTrigger v).control = s.control := rfl
@[simp] theorem State.setTrigger_settings (s : State) (v) : (s.setTrigger v).settings = s.settings := rfl
@[simp] theorem State.setTrigger_tracker (s : State) (v) : (s.setTrigger v).tracker = s.tracker := rfl
@[simp] theorem State.setTrigger_injection (s : State) (v) : (s.setTrigger v).injection = s.injection := rfl
@[simp] theorem State.setTrigger_monitor (s : State) (v) : (s.setTrigger v).monitor = s.monitor := rfl
@[simp] theorem State.setTrigger_pending (s : State) (v) : (s.setTrigger v).pending = s.pending := rfl
@[simp] theorem State.setTrigger_same (s : State) : s.setTrigger s.trigger = s := rfl
@[simp] theorem State.setTrigger_setTrigger (s : State) (v w) : (s.setTrigger v).setTrigger w = s.setTrigger w := rfl

@[simp] theorem State.setInputs_timer (s : State) (v) : (s.setInputs v).timer = s.timer := rfl
@[simp] theorem State.setInputs_run (s : State) (v) : (s.setInputs v).run = s.run := rfl
@[simp] theorem State.setInputs_trigger (s : State) (v) : (s.setInputs v).trigger = s.trigger := rfl
@[simp] theorem State.setInputs_inputs (s : State) (v) : (s.setInputs v).inputs = v := rfl
@[simp] theorem State.setInputs_pipeline (s : State) (v) : (s.setInputs v).pipeline = s.pipeline := rfl
@[simp] theorem State.setInputs_towers (s : State) (v) : (s.setInputs v).towers = s.towers := rfl
@[simp] theorem State.setInputs_queue (s : State) (v) : (s.setInputs v).queue = s.queue := rfl
@[simp] theorem State.setInputs_capture (s : State) (v) : (s.setInputs v).capture = s.capture := rfl
@[simp] theorem State.setInputs_windows (s : State) (v) : (s.setInputs v).windows = s.windows := rfl
@[simp] theorem State.setInputs_recon (s : State) (v) : (s.setInputs v).recon = s.recon := rfl
@[simp] theorem State.setInputs_buffer (s : State) (v) : (s.setInputs v).buffer = s.buffer := rfl
@[simp] theorem State.setInputs_readout (s : State) (v) : (s.setInputs v).readout = s.readout := rfl
@[simp] theorem State.setInputs_control (s : State) (v) : (s.setInputs v).control = s.control := rfl
@[simp] theorem State.setInputs_settings (s : State) (v) : (s.setInputs v).settings = s.settings := rfl
@[simp] theorem State.setInputs_tracker (s : State) (v) : (s.setInputs v).tracker = s.tracker := rfl
@[simp] theorem State.setInputs_injection (s : State) (v) : (s.setInputs v).injection = s.injection := rfl
@[simp] theorem State.setInputs_monitor (s : State) (v) : (s.setInputs v).monitor = s.monitor := rfl
@[simp] theorem State.setInputs_pending (s : State) (v) : (s.setInputs v).pending = s.pending := rfl
@[simp] theorem State.setInputs_same (s : State) : s.setInputs s.inputs = s := rfl
@[simp] theorem State.setInputs_setInputs (s : State) (v w) : (s.setInputs v).setInputs w = s.setInputs w := rfl

@[simp] theorem State.setPipeline_timer (s : State) (v) : (s.setPipeline v).timer = s.timer := rfl
@[simp] theorem State.setPipeline_run (s : State) (v) : (s.setPipeline v).run = s.run := rfl
@[simp] theorem State.setPipeline_trigger (s : State) (v) : (s.setPipeline v).trigger = s.trigger := rfl
@[simp] theorem State.setPipeline_inputs (s : State) (v) : (s.setPipeline v).inputs = s.inputs := rfl
@[simp] theorem State.setPipeline_pipeline (s : State) (v) : (s.setPipeline v).pipeline = v := rfl
@[simp] theorem State.setPipeline_towers (s : State) (v) : (s.setPipeline v).towers = s.towers := rfl
@[simp] theorem State.setPipeline_queue (s : State) (v) : (s.setPipeline v).queue = s.queue := rfl
@[simp] theorem State.setPipeline_capture (s : State) (v) : (s.setPipeline v).capture = s.capture := rfl
@[simp] theorem State.setPipeline_windows (s : State) (v) : (s.setPipeline v).windows = s.windows := rfl
@[simp] theorem State.setPipeline_recon (s : State) (v) : (s.setPipeline v).recon = s.recon := rfl
@[simp] theorem State.setPipeline_buffer (s : State) (v) : (s.setPipeline v).buffer = s.buffer := rfl
@[simp] theorem State.setPipeline_readout (s : State) (v) : (s.setPipeline v).readout = s.readout := rfl
@[simp] theorem State.setPipeline_control (s : State) (v) : (s.setPipeline v).control = s.control := rfl
@[simp] theorem State.setPipeline_settings (s : State) (v) : (s.setPipeline v).settings = s.settings := rfl
@[simp] theorem State.setPipeline_tracker (s : State) (v) : (s.setPipeline v).tracker = s.tracker := rfl
@[simp] theorem State.setPipeline_injection (s : State) (v) : (s.setPipeline v).injection = s.injection := rfl
@[simp] theorem State.setPipeline_monitor (s : State) (v) : (s.setPipeline v).monitor = s.monitor := rfl
@[simp] theorem State.setPipeline_pending (s : State) (v) : (s.setPipeline v).pending = s.pending := rfl
@[simp] theorem State.setPipeline_same (s : State) : s.setPipeline s.pipeline = s := rfl
@[simp] theorem State.setPipeline_setPipeline (s : State) (v w) : (s.setPipeline v).setPipeline w = s.setPipeline w := rfl

@[simp] theorem State.setTowers_timer (s : State) (v) : (s.setTowers v).timer = s.timer := rfl
@[simp] theorem State.setTowers_run (s : State) (v) : (s.setTowers v).run = s.run := rfl
@[simp] theorem State.setTowers_trigger (s : State) (v) : (s.setTowers v).trigger = s.trigger := rfl
@[simp] theorem State.setTowers_inputs (s : State) (v) : (s.setTowers v).inputs = s.inputs := rfl
@[simp] theorem State.setTowers_pipeline (s : State) (v) : (s.setTowers v).pipeline = s.pipeline := rfl
@[simp] theorem State.setTowers_towers (s : State) (v) : (s.setTowers v).towers = v := rfl
@[simp] theorem State.setTowers_queue (s : State) (v) : (s.setTowers v).queue = s.queue := rfl
@[simp] theorem State.setTowers_capture (s : State) (v) : (s.setTowers v).capture = s.capture := rfl
@[simp] theorem State.setTowers_windows (s : State) (v) : (s.setTowers v).windows = s.windows := rfl
@[simp] theorem State.setTowers_recon (s : State) (v) : (s.setTowers v).recon = s.recon := rfl
@[simp] theorem State.setTowers_buffer (s : State) (v) : (s.setTowers v).buffer = s.buffer := rfl
@[simp] theorem State.setTowers_readout (s : State) (v) : (s.setTowers v).readout = s.readout := rfl
@[simp] theorem State.setTowers_control (s : State) (v) : (s.setTowers v).control = s.control := rfl
@[simp] theorem State.setTowers_settings (s : State) (v) : (s.setTowers v).settings = s.settings := rfl
@[simp] theorem State.setTowers_tracker (s : State) (v) : (s.setTowers v).tracker = s.tracker := rfl
@[simp] theorem State.setTowers_injection (s : State) (v) : (s.setTowers v).injection = s.injection := rfl
@[simp] theorem State.setTowers_monitor (s : State) (v) : (s.setTowers v).monitor = s.monitor := rfl
@[simp] theorem State.setTowers_pending (s : State) (v) : (s.setTowers v).pending = s.pending := rfl
@[simp] theorem State.setTowers_same (s : State) : s.setTowers s.towers = s := rfl
@[simp] theorem State.setTowers_setTowers (s : State) (v w) : (s.setTowers v).setTowers w = s.setTowers w := rfl

@[simp] theorem State.setQueue_timer (s : State) (v) : (s.setQueue v).timer = s.timer := rfl
@[simp] theorem State.setQueue_run (s : State) (v) : (s.setQueue v).run = s.run := rfl
@[simp] theorem State.setQueue_trigger (s : State) (v) : (s.setQueue v).trigger = s.trigger := rfl
@[simp] theorem State.setQueue_inputs (s : State) (v) : (s.setQueue v).inputs = s.inputs := rfl
@[simp] theorem State.setQueue_pipeline (s : State) (v) : (s.setQueue v).pipeline = s.pipeline := rfl
@[simp] theorem State.setQueue_towers (s : State) (v) : (s.setQueue v).towers = s.towers := rfl
@[simp] theorem State.setQueue_queue (s : State) (v) : (s.setQueue v).queue = v := rfl
@[simp] theorem State.setQueue_capture (s : State) (v) : (s.setQueue v).capture = s.capture := rfl
@[simp] theorem State.setQueue_windows (s : State) (v) : (s.setQueue v).windows = s.windows := rfl
@[simp] theorem State.setQueue_recon (s : State) (v) : (s.setQueue v).recon = s.recon := rfl
@[simp] theorem State.setQueue_buffer (s : State) (v) : (s.setQueue v).buffer = s.buffer := rfl
@[simp] theorem State.setQueue_readout (s : State) (v) : (s.setQueue v).readout = s.readout := rfl
@[simp] theorem State.setQueue_control (s : State) (v) : (s.setQueue v).control = s.control := rfl
@[simp] theorem State.setQueue_settings (s : State) (v) : (s.setQueue v).settings = s.settings := rfl
@[simp] theorem State.setQueue_tracker (s : State) (v) : (s.setQueue v).tracker = s.tracker := rfl
@[simp] theorem State.setQueue_injection (s : State) (v) : (s.setQueue v).injection = s.injection := rfl
@[simp] theorem State.setQueue_monitor (s : State) (v) : (s.setQueue v).monitor = s.monitor := rfl
@[simp] theorem State.setQueue_pending (s : State) (v) : (s.setQueue v).pending = s.pending := rfl
@[simp] theorem State.setQueue_same (s : State) : s.setQueue s.queue = s := rfl
@[simp] theorem State.setQueue_setQueue (s : State) (v w) : (s.setQueue v).setQueue w = s.setQueue w := rfl

@[simp] theorem State.setCapture_timer (s : State) (v) : (s.setCapture v).timer = s.timer := rfl
@[simp] theorem State.setCapture_run (s : State) (v) : (s.setCapture v).run = s.run := rfl
@[simp] theorem State.setCapture_trigger (s : State) (v) : (s.setCapture v).trigger = s.trigger := rfl
@[simp] theorem State.setCapture_inputs (s : State) (v) : (s.setCapture v).inputs = s.inputs := rfl
@[simp] theorem State.setCapture_pipeline (s : State) (v) : (s.setCapture v).pipeline = s.pipeline := rfl
@[simp] theorem State.setCapture_towers (s : State) (v) : (s.setCapture v).towers = s.towers := rfl
@[simp] theorem State.setCapture_queue (s : State) (v) : (s.setCapture v).queue = s.queue := rfl
@[simp] theorem State.setCapture_capture (s : State) (v) : (s.setCapture v).capture = v := rfl
@[simp] theorem State.setCapture_windows (s : State) (v) : (s.setCapture v).windows = s.windows := rfl
@[simp] theorem State.setCapture_recon (s : State) (v) : (s.setCapture v).recon = s.recon := rfl
@[simp] theorem State.setCapture_buffer (s : State) (v) : (s.setCapture v).buffer = s.buffer := rfl
@[simp] theorem State.setCapture_readout (s : State) (v) : (s.setCapture v).readout = s.readout := rfl
@[simp] theorem State.setCapture_control (s : State) (v) : (s.setCapture v).control = s.control := rfl
@[simp] theorem State.setCapture_settings (s : State) (v) : (s.setCapture v).settings = s.settings := rfl
@[simp] theorem State.setCapture_tracker (s : State) (v) : (s.setCapture v).tracker = s.tracker := rfl
@[simp] theorem State.setCapture_injection (s : State) (v) : (s.setCapture v).injection = s.injection := rfl
@[simp] theorem State.setCapture_monitor (s : State) (v) : (s.setCapture v).monitor = s.monitor := rfl
@[simp] theorem State.setCapture_pending (s : State) (v) : (s.setCapture v).pending = s.pending := rfl
@[simp] theorem State.setCapture_same (s : State) : s.setCapture s.capture = s := rfl
@[simp] theorem State.setCapture_setCapture (s : State) (v w) : (s.setCapture v).setCapture w = s.setCapture w := rfl

@[simp] theorem State.setWindows_timer (s : State) (v) : (s.setWindows v).timer = s.timer := rfl
@[simp] theorem State.setWindows_run (s : State) (v) : (s.setWindows v).run = s.run := rfl
@[simp] theorem State.setWindows_trigger (s : State) (v) : (s.setWindows v).trigger = s.trigger := rfl
@[simp] theorem State.setWindows_inputs (s : State) (v) : (s.setWindows v).inputs = s.inputs := rfl
@[simp] theorem State.setWindows_pipeline (s : State) (v) : (s.setWindows v).pipeline = s.pipeline := rfl
@[simp] theorem State.setWindows_towers (s : State) (v) : (s.setWindows v).towers = s.towers := rfl
@[simp] theorem State.setWindows_queue (s : State) (v) : (s.setWindows v).queue = s.queue := rfl
@[simp] theorem State.setWindows_capture (s : State) (v) : (s.setWindows v).capture = s.capture := rfl
@[simp] theorem State.setWindows_windows (s : State) (v) : (s.setWindows v).windows = v := rfl
@[simp] theorem State.setWindows_recon (s : State) (v) : (s.setWindows v).recon = s.recon := rfl
@[simp] theorem State.setWindows_buffer (s : State) (v) : (s.setWindows v).buffer = s.buffer := rfl
@[simp] theorem State.setWindows_readout (s : State) (v) : (s.setWindows v).readout = s.readout := rfl
@[simp] theorem State.setWindows_control (s : State) (v) : (s.setWindows v).control = s.control := rfl
@[simp] theorem State.setWindows_settings (s : State) (v) : (s.setWindows v).settings = s.settings := rfl
@[simp] theorem State.setWindows_tracker (s : State) (v) : (s.setWindows v).tracker = s.tracker := rfl
@[simp] theorem State.setWindows_injection (s : State) (v) : (s.setWindows v).injection = s.injection := rfl
@[simp] theorem State.setWindows_monitor (s : State) (v) : (s.setWindows v).monitor = s.monitor := rfl
@[simp] theorem State.setWindows_pending (s : State) (v) : (s.setWindows v).pending = s.pending := rfl
@[simp] theorem State.setWindows_same (s : State) : s.setWindows s.windows = s := rfl
@[simp] theorem State.setWindows_setWindows (s : State) (v w) : (s.setWindows v).setWindows w = s.setWindows w := rfl

@[simp] theorem State.setRecon_timer (s : State) (v) : (s.setRecon v).timer = s.timer := rfl
@[simp] theorem State.setRecon_run (s : State) (v) : (s.setRecon v).run = s.run := rfl
@[simp] theorem State.setRecon_trigger (s : State) (v) : (s.setRecon v).trigger = s.trigger := rfl
@[simp] theorem State.setRecon_inputs (s : State) (v) : (s.setRecon v).inputs = s.inputs := rfl
@[simp] theorem State.setRecon_pipeline (s : State) (v) : (s.setRecon v).pipeline = s.pipeline := rfl
@[simp] theorem State.setRecon_towers (s : State) (v) : (s.setRecon v).towers = s.towers := rfl
@[simp] theorem State.setRecon_queue (s : State) (v) : (s.setRecon v).queue = s.queue := rfl
@[simp] theorem State.setRecon_capture (s : State) (v) : (s.setRecon v).capture = s.capture := rfl
@[simp] theorem State.setRecon_windows (s : State) (v) : (s.setRecon v).windows = s.windows := rfl
@[simp] theorem State.setRecon_recon (s : State) (v) : (s.setRecon v).recon = v := rfl
@[simp] theorem State.setRecon_buffer (s : State) (v) : (s.setRecon v).buffer = s.buffer := rfl
@[simp] theorem State.setRecon_readout (s : State) (v) : (s.setRecon v).readout = s.readout := rfl
@[simp] theorem State.setRecon_control (s : State) (v) : (s.setRecon v).control = s.control := rfl
@[simp] theorem State.setRecon_settings (s : State) (v) : (s.setRecon v).settings = s.settings := rfl
@[simp] theorem State.setRecon_tracker (s : State) (v) : (s.setRecon v).tracker = s.tracker := rfl
@[simp] theorem State.setRecon_injection (s : State) (v) : (s.setRecon v).injection = s.injection := rfl
@[simp] theorem State.setRecon_monitor (s : State) (v) : (s.setRecon v).monitor = s.monitor := rfl
@[simp] theorem State.setRecon_pending (s : State) (v) : (s.setRecon v).pending = s.pending := rfl
@[simp] theorem State.setRecon_same (s : State) : s.setRecon s.recon = s := rfl
@[simp] theorem State.setRecon_setRecon (s : State) (v w) : (s.setRecon v).setRecon w = s.setRecon w := rfl

@[simp] theorem State.setBuffer_timer (s : State) (v) : (s.setBuffer v).timer = s.timer := rfl
@[simp] theorem State.setBuffer_run (s : State) (v) : (s.setBuffer v).run = s.run := rfl
@[simp] theorem State.setBuffer_trigger (s : State) (v) : (s.setBuffer v).trigger = s.trigger := rfl
@[simp] theorem State.setBuffer_inputs (s : State) (v) : (s.setBuffer v).inputs = s.inputs := rfl
@[simp] theorem State.setBuffer_pipeline (s : State) (v) : (s.setBuffer v).pipeline = s.pipeline := rfl
@[simp] theorem State.setBuffer_towers (s : State) (v) : (s.setBuffer v).towers = s.towers := rfl
@[simp] theorem State.setBuffer_queue (s : State) (v) : (s.setBuffer v).queue = s.queue := rfl
@[simp] theorem State.setBuffer_capture (s : State) (v) : (s.setBuffer v).capture = s.capture := rfl
@[simp] theorem State.setBuffer_windows (s : State) (v) : (s.setBuffer v).windows = s.windows := rfl
@[simp] theorem State.setBuffer_recon (s : State) (v) : (s.setBuffer v).recon = s.recon := rfl
@[simp] theorem State.setBuffer_buffer (s : State) (v) : (s.setBuffer v).buffer = v := rfl
@[simp] theorem State.setBuffer_readout (s : State) (v) : (s.setBuffer v).readout = s.readout := rfl
@[simp] theorem State.setBuffer_control (s : State) (v) : (s.setBuffer v).control = s.control := rfl
@[simp] theorem State.setBuffer_settings (s : State) (v) : (s.setBuffer v).settings = s.settings := rfl
@[simp] theorem State.setBuffer_tracker (s : State) (v) : (s.setBuffer v).tracker = s.tracker := rfl
@[simp] theorem State.setBuffer_injection (s : State) (v) : (s.setBuffer v).injection = s.injection := rfl
@[simp] theorem State.setBuffer_monitor (s : State) (v) : (s.setBuffer v).monitor = s.monitor := rfl
@[simp] theorem State.setBuffer_pending (s : State) (v) : (s.setBuffer v).pending = s.pending := rfl
@[simp] theorem State.setBuffer_same (s : State) : s.setBuffer s.buffer = s := rfl
@[simp] theorem State.setBuffer_setBuffer (s : State) (v w) : (s.setBuffer v).setBuffer w = s.setBuffer w := rfl

@[simp] theorem State.setReadout_timer (s : State) (v) : (s.setReadout v).timer = s.timer := rfl
@[simp] theorem State.setReadout_run (s : State) (v) : (s.setReadout v).run = s.run := rfl
@[simp] theorem State.setReadout_trigger (s : State) (v) : (s.setReadout v).trigger = s.trigger := rfl
@[simp] theorem State.setReadout_inputs (s : State) (v) : (s.setReadout v).inputs = s.inputs := rfl
@[simp] theorem State.setReadout_pipeline (s : State) (v) : (s.setReadout v).pipeline = s.pipeline := rfl
@[simp] theorem State.setReadout_towers (s : State) (v) : (s.setReadout v).towers = s.towers := rfl
@[simp] theorem State.setReadout_queue (s : State) (v) : (s.setReadout v).queue = s.queue := rfl
@[simp] theorem State.setReadout_capture (s : State) (v) : (s.setReadout v).capture = s.capture := rfl
@[simp] theorem State.setReadout_windows (s : State) (v) : (s.setReadout v).windows = s.windows := rfl
@[simp] theorem State.setReadout_recon (s : State) (v) : (s.setReadout v).recon = s.recon := rfl
@[simp] theorem State.setReadout_buffer (s : State) (v) : (s.setReadout v).buffer = s.buffer := rfl
@[simp] theorem State.setReadout_readout (s : State) (v) : (s.setReadout v).readout = v := rfl
@[simp] theorem State.setReadout_control (s : State) (v) : (s.setReadout v).control = s.control := rfl
@[simp] theorem State.setReadout_settings (s : State) (v) : (s.setReadout v).settings = s.settings := rfl
@[simp] theorem State.setReadout_tracker (s : State) (v) : (s.setReadout v).tracker = s.tracker := rfl
@[simp] theorem State.setReadout_injection (s : State) (v) : (s.setReadout v).injection = s.injection := rfl
@[simp] theorem State.setReadout_monitor (s : State) (v) : (s.setReadout v).monitor = s.monitor := rfl
@[simp] theorem State.setReadout_pending (s : State) (v) : (s.setReadout v).pending = s.pending := rfl
@[simp] theorem State.setReadout_same (s : State) : s.setReadout s.readout = s := rfl
@[simp] theorem State.setReadout_setReadout (s : State) (v w) : (s.setReadout v).setReadout w = s.setReadout w := rfl

@[simp] theorem State.setControl_timer (s : State) (v) : (s.setControl v).timer = s.timer := rfl
@[simp] theorem State.setControl_run (s : State) (v) : (s.setControl v).run = s.run := rfl
@[simp] theorem State.setControl_trigger (s : State) (v) : (s.setControl v).trigger = s.trigger := rfl
@[simp] theorem State.setControl_inputs (s : State) (v) : (s.setControl v).inputs = s.inputs := rfl
@[simp] theorem State.setControl_pipeline (s : State) (v) : (s.setControl v).pipeline = s.pipeline := rfl
@[simp] theorem State.setControl_towers (s : State) (v) : (s.setControl v).towers = s.towers := rfl
@[simp] theorem State.setControl_queue (s : State) (v) : (s.setControl v).queue = s.queue := rfl
@[simp] theorem State.setControl_capture (s : State) (v) : (s.setControl v).capture = s.capture := rfl
@[simp] theorem State.setControl_windows (s : State) (v) : (s.setControl v).windows = s.windows := rfl
@[simp] theorem State.setControl_recon (s : State) (v) : (s.setControl v).recon = s.recon := rfl
@[simp] theorem State.setControl_buffer (s : State) (v) : (s.setControl v).buffer = s.buffer := rfl
@[simp] theorem State.setControl_readout (s : State) (v) : (s.setControl v).readout = s.readout := rfl
@[simp] theorem State.setControl_control (s : State) (v) : (s.setControl v).control = v := rfl
@[simp] theorem State.setControl_settings (s : State) (v) : (s.setControl v).settings = s.settings := rfl
@[simp] theorem State.setControl_tracker (s : State) (v) : (s.setControl v).tracker = s.tracker := rfl
@[simp] theorem State.setControl_injection (s : State) (v) : (s.setControl v).injection = s.injection := rfl
@[simp] theorem State.setControl_monitor (s : State) (v) : (s.setControl v).monitor = s.monitor := rfl
@[simp] theorem State.setControl_pending (s : State) (v) : (s.setControl v).pending = s.pending := rfl
@[simp] theorem State.setControl_same (s : State) : s.setControl s.control = s := rfl
@[simp] theorem State.setControl_setControl (s : State) (v w) : (s.setControl v).setControl w = s.setControl w := rfl

@[simp] theorem State.setSettings_timer (s : State) (v) : (s.setSettings v).timer = s.timer := rfl
@[simp] theorem State.setSettings_run (s : State) (v) : (s.setSettings v).run = s.run := rfl
@[simp] theorem State.setSettings_trigger (s : State) (v) : (s.setSettings v).trigger = s.trigger := rfl
@[simp] theorem State.setSettings_inputs (s : State) (v) : (s.setSettings v).inputs = s.inputs := rfl
@[simp] theorem State.setSettings_pipeline (s : State) (v) : (s.setSettings v).pipeline = s.pipeline := rfl
@[simp] theorem State.setSettings_towers (s : State) (v) : (s.setSettings v).towers = s.towers := rfl
@[simp] theorem State.setSettings_queue (s : State) (v) : (s.setSettings v).queue = s.queue := rfl
@[simp] theorem State.setSettings_capture (s : State) (v) : (s.setSettings v).capture = s.capture := rfl
@[simp] theorem State.setSettings_windows (s : State) (v) : (s.setSettings v).windows = s.windows := rfl
@[simp] theorem State.setSettings_recon (s : State) (v) : (s.setSettings v).recon = s.recon := rfl
@[simp] theorem State.setSettings_buffer (s : State) (v) : (s.setSettings v).buffer = s.buffer := rfl
@[simp] theorem State.setSettings_readout (s : State) (v) : (s.setSettings v).readout = s.readout := rfl
@[simp] theorem State.setSettings_control (s : State) (v) : (s.setSettings v).control = s.control := rfl
@[simp] theorem State.setSettings_settings (s : State) (v) : (s.setSettings v).settings = v := rfl
@[simp] theorem State.setSettings_tracker (s : State) (v) : (s.setSettings v).tracker = s.tracker := rfl
@[simp] theorem State.setSettings_injection (s : State) (v) : (s.setSettings v).injection = s.injection := rfl
@[simp] theorem State.setSettings_monitor (s : State) (v) : (s.setSettings v).monitor = s.monitor := rfl
@[simp] theorem State.setSettings_pending (s : State) (v) : (s.setSettings v).pending = s.pending := rfl
@[simp] theorem State.setSettings_same (s : State) : s.setSettings s.settings = s := rfl
@[simp] theorem State.setSettings_setSettings (s : State) (v w) : (s.setSettings v).setSettings w = s.setSettings w := rfl

@[simp] theorem State.setTracker_timer (s : State) (v) : (s.setTracker v).timer = s.timer := rfl
@[simp] theorem State.setTracker_run (s : State) (v) : (s.setTracker v).run = s.run := rfl
@[simp] theorem State.setTracker_trigger (s : State) (v) : (s.setTracker v).trigger = s.trigger := rfl
@[simp] theorem State.setTracker_inputs (s : State) (v) : (s.setTracker v).inputs = s.inputs := rfl
@[simp] theorem State.setTracker_pipeline (s : State) (v) : (s.setTracker v).pipeline = s.pipeline := rfl
@[simp] theorem State.setTracker_towers (s : State) (v) : (s.setTracker v).towers = s.towers := rfl
@[simp] theorem State.setTracker_queue (s : State) (v) : (s.setTracker v).queue = s.queue := rfl
@[simp] theorem State.setTracker_capture (s : State) (v) : (s.setTracker v).capture = s.capture := rfl
@[simp] theorem State.setTracker_windows (s : State) (v) : (s.setTracker v).windows = s.windows := rfl
@[simp] theorem State.setTracker_recon (s : State) (v) : (s.setTracker v).recon = s.recon := rfl
@[simp] theorem State.setTracker_buffer (s : State) (v) : (s.setTracker v).buffer = s.buffer := rfl
@[simp] theorem State.setTracker_readout (s : State) (v) : (s.setTracker v).readout = s.readout := rfl
@[simp] theorem State.setTracker_control (s : State) (v) : (s.setTracker v).control = s.control := rfl
@[simp] theorem State.setTracker_settings (s : State) (v) : (s.setTracker v).settings = s.settings := rfl
@[simp] theorem State.setTracker_tracker (s : State) (v) : (s.setTracker v).tracker = v := rfl
@[simp] theorem State.setTracker_injection (s : State) (v) : (s.setTracker v).injection = s.injection := rfl
@[simp] theorem State.setTracker_monitor (s : State) (v) : (s.setTracker v).monitor = s.monitor := rfl
@[simp] theorem State.setTracker_pending (s : State) (v) : (s.setTracker v).pending = s.pending := rfl
@[simp] theorem State.setTracker_same (s : State) : s.setTracker s.tracker = s := rfl
@[simp] theorem State.setTracker_setTracker (s : State) (v w) : (s.setTracker v).setTracker w = s.setTracker w := rfl

@[simp] theorem State.setInjection_timer (s : State) (v) : (s.setInjection v).timer = s.timer := rfl
@[simp] theorem State.setInjection_run (s : State) (v) : (s.setInjection v).run = s.run := rfl
@[simp] theorem State.setInjection_trigger (s : State) (v) : (s.setInjection v).trigger = s.trigger := rfl
@[simp] theorem State.setInjection_inputs (s : State) (v) : (s.setInjection v).inputs = s.inputs := rfl
@[simp] theorem State.setInjection_pipeline (s : State) (v) : (s.setInjection v).pipeline = s.pipeline := rfl
@[simp] theorem State.setInjection_towers (s : State) (v) : (s.setInjection v).towers = s.towers := rfl
@[simp] theorem State.setInjection_queue (s : State) (v) : (s.setInjection v).queue = s.queue := rfl
@[simp] theorem State.setInjection_capture (s : State) (v) : (s.setInjection v).capture = s.capture := rfl
@[simp] theorem State.setInjection_windows (s : State) (v) : (s.setInjection v).windows = s.windows := rfl
@[simp] theorem State.setInjection_recon (s : State) (v) : (s.setInjection v).recon = s.recon := rfl
@[simp] theorem State.setInjection_buffer (s : State) (v) : (s.setInjection v).buffer = s.buffer := rfl
@[simp] theorem State.setInjection_readout (s : State) (v) : (s.setInjection v).readout = s.readout := rfl
@[simp] theorem State.setInjection_control (s : State) (v) : (s.setInjection v).control = s.control := rfl
@[simp] theorem State.setInjection_settings (s : State) (v) : (s.setInjection v).settings = s.settings := rfl
@[simp] theorem State.setInjection_tracker (s : State) (v) : (s.setInjection v).tracker = s.tracker := rfl
@[simp] theorem State.setInjection_injection (s : State) (v) : (s.setInjection v).injection = v := rfl
@[simp] theorem State.setInjection_monitor (s : State) (v) : (s.setInjection v).monitor = s.monitor := rfl
@[simp] theorem State.setInjection_pending (s : State) (v) : (s.setInjection v).pending = s.pending := rfl
@[simp] theorem State.setInjection_same (s : State) : s.setInjection s.injection = s := rfl
@[simp] theorem State.setInjection_setInjection (s : State) (v w) : (s.setInjection v).setInjection w = s.setInjection w := rfl

@[simp] theorem State.setMonitor_timer (s : State) (v) : (s.setMonitor v).timer = s.timer := rfl
@[simp] theorem State.setMonitor_run (s : State) (v) : (s.setMonitor v).run = s.run := rfl
@[simp] theorem State.setMonitor_trigger (s : State) (v) : (s.setMonitor v).trigger = s.trigger := rfl
@[simp] theorem State.setMonitor_inputs (s : State) (v) : (s.setMonitor v).inputs = s.inputs := rfl
@[simp] theorem State.setMonitor_pipeline (s : State) (v) : (s.setMonitor v).pipeline = s.pipeline := rfl
@[simp] theorem State.setMonitor_towers (s : State) (v) : (s.setMonitor v).towers = s.towers := rfl
@[simp] theorem State.setMonitor_queue (s : State) (v) : (s.setMonitor v).queue = s.queue := rfl
@[simp] theorem State.setMonitor_capture (s : State) (v) : (s.setMonitor v).capture = s.capture := rfl
@[simp] theorem State.setMonitor_windows (s : State) (v) : (s.setMonitor v).windows = s.windows := rfl
@[simp] theorem State.setMonitor_recon (s : State) (v) : (s.setMonitor v).recon = s.recon := rfl
@[simp] theorem State.setMonitor_buffer (s : State) (v) : (s.setMonitor v).buffer = s.buffer := rfl
@[simp] theorem State.setMonitor_readout (s : State) (v) : (s.setMonitor v).readout = s.readout := rfl
@[simp] theorem State.setMonitor_control (s : State) (v) : (s.setMonitor v).control = s.control := rfl
@[simp] theorem State.setMonitor_settings (s : State) (v) : (s.setMonitor v).settings = s.settings := rfl
@[simp] theorem State.setMonitor_tracker (s : State) (v) : (s.setMonitor v).tracker = s.tracker := rfl
@[simp] theorem State.setMonitor_injection (s : State) (v) : (s.setMonitor v).injection = s.injection := rfl
@[simp] theorem State.setMonitor_monitor (s : State) (v) : (s.setMonitor v).monitor = v := rfl
@[simp] theorem State.setMonitor_pending (s : State) (v) : (s.setMonitor v).pending = s.pending := rfl
@[simp] theorem State.setMonitor_same (s : State) : s.setMonitor s.monitor = s := rfl
@[simp] theorem State.setMonitor_setMonitor (s : State) (v w) : (s.setMonitor v).setMonitor w = s.setMonitor w := rfl

@[simp] theorem State.setPending_timer (s : State) (v) : (s.setPending v).timer = s.timer := rfl
@[simp] theorem State.setPending_run (s : State) (v) : (s.setPending v).run = s.run := rfl
@[simp] theorem State.setPending_trigger (s : State) (v) : (s.setPending v).trigger = s.trigger := rfl
@[simp] theorem State.setPending_inputs (s : State) (v) : (s.setPending v).inputs = s.inputs := rfl
@[simp] theorem State.setPending_pipeline (s : State) (v) : (s.setPending v).pipeline = s.pipeline := rfl
@[simp] theorem State.setPending_towers (s : State) (v) : (s.setPending v).towers = s.towers := rfl
@[simp] theorem State.setPending_queue (s : State) (v) : (s.setPending v).queue = s.queue := rfl
@[simp] theorem State.setPending_capture (s : State) (v) : (s.setPending v).capture = s.capture := rfl
@[simp] theorem State.setPending_windows (s : State) (v) : (s.setPending v).windows = s.windows := rfl
@[simp] theorem State.setPending_recon (s : State) (v) : (s.setPending v).recon = s.recon := rfl
@[simp] theorem State.setPending_buffer (s : State) (v) : (s.setPending v).buffer = s.buffer := rfl
@[simp] theorem State.setPending_readout (s : State) (v) : (s.setPending v).readout = s.readout := rfl
@[simp] theorem State.setPending_control (s : State) (v) : (s.setPending v).control = s.control := rfl
@[simp] theorem State.setPending_settings (s : State) (v) : (s.setPending v).settings = s.settings := rfl
@[simp] theorem State.setPending_tracker (s : State) (v) : (s.setPending v).tracker = s.tracker := rfl
@[simp] theorem State.setPending_injection (s : State) (v) : (s.setPending v).injection = s.injection := rfl
@[simp] theorem State.setPending_monitor (s : State) (v) : (s.setPending v).monitor = s.monitor := rfl
@[simp] theorem State.setPending_pending (s : State) (v) : (s.setPending v).pending = v := rfl
@[simp] theorem State.setPending_same (s : State) : s.setPending s.pending = s := rfl
@[simp] theorem State.setPending_setPending (s : State) (v w) : (s.setPending v).setPending w = s.setPending w := rfl

end Sys2Proof.Machine
end

