-- ==== Sys2Proof/Laws/Frames.lean ====
section
/-! SUPPORT. For each shared operation, the fields of State it leaves alone: one lemma per operation, which simp splits into one
rewrite per field. -/

namespace Sys2Proof.Machine

/-- A fold of updates that leave `g` alone leaves `g` alone. -/
theorem foldl_frame {β γ : Type} (g : State → γ) (f : State → β → State) (h : ∀ s b, g (f s b) = g s) (l : List β)
    (s : State) : g (l.foldl f s) = g s := by
  induction l generalizing s with
  | nil => rfl
  | cons b l ih => rw [List.foldl_cons, ih, h]

@[simp] theorem report_frame (c : Cause) (s : State) :
    (report c s).timer = s.timer ∧ (report c s).run = s.run ∧ (report c s).trigger = s.trigger ∧
    (report c s).inputs = s.inputs ∧ (report c s).pipeline = s.pipeline ∧ (report c s).towers = s.towers ∧
    (report c s).queue = s.queue ∧ (report c s).capture = s.capture ∧ (report c s).windows = s.windows ∧
    (report c s).recon = s.recon ∧ (report c s).buffer = s.buffer ∧ (report c s).readout = s.readout ∧
    (report c s).control = s.control ∧ (report c s).settings = s.settings ∧ (report c s).tracker = s.tracker ∧
    (report c s).injection = s.injection ∧ (report c s).pending = s.pending := by
  dsimp only [report]; simp

@[simp] theorem reportIf_frame (b : Bool) (c : Cause) (s : State) :
    (reportIf b c s).timer = s.timer ∧ (reportIf b c s).run = s.run ∧ (reportIf b c s).trigger = s.trigger ∧
    (reportIf b c s).inputs = s.inputs ∧ (reportIf b c s).pipeline = s.pipeline ∧ (reportIf b c s).towers = s.towers ∧
    (reportIf b c s).queue = s.queue ∧ (reportIf b c s).capture = s.capture ∧ (reportIf b c s).windows = s.windows ∧
    (reportIf b c s).recon = s.recon ∧ (reportIf b c s).buffer = s.buffer ∧ (reportIf b c s).readout = s.readout ∧
    (reportIf b c s).control = s.control ∧ (reportIf b c s).settings = s.settings ∧ (reportIf b c s).tracker = s.tracker ∧
    (reportIf b c s).injection = s.injection ∧ (reportIf b c s).pending = s.pending := by
  dsimp only [reportIf]; (repeat' split) <;> simp

@[simp] theorem changeRunState_frame (r : RunState) (s : State) :
    (changeRunState r s).timer = s.timer ∧ (changeRunState r s).inputs = s.inputs ∧ (changeRunState r s).pipeline = s.pipeline ∧
    (changeRunState r s).towers = s.towers ∧ (changeRunState r s).queue = s.queue ∧ (changeRunState r s).capture = s.capture ∧
    (changeRunState r s).windows = s.windows ∧ (changeRunState r s).recon = s.recon ∧ (changeRunState r s).buffer = s.buffer ∧
    (changeRunState r s).readout = s.readout ∧ (changeRunState r s).control = s.control ∧ (changeRunState r s).settings = s.settings ∧
    (changeRunState r s).tracker = s.tracker ∧ (changeRunState r s).injection = s.injection ∧ (changeRunState r s).monitor = s.monitor ∧
    (changeRunState r s).pending = s.pending := by
  dsimp only [changeRunState]; (repeat' split) <;> simp

@[simp] theorem loseRun_frame (s : State) :
    (loseRun s).timer = s.timer ∧ (loseRun s).inputs = s.inputs ∧ (loseRun s).pipeline = s.pipeline ∧
    (loseRun s).towers = s.towers ∧ (loseRun s).queue = s.queue ∧ (loseRun s).capture = s.capture ∧
    (loseRun s).windows = s.windows ∧ (loseRun s).recon = s.recon ∧ (loseRun s).buffer = s.buffer ∧
    (loseRun s).readout = s.readout ∧ (loseRun s).control = s.control ∧ (loseRun s).settings = s.settings ∧
    (loseRun s).tracker = s.tracker ∧ (loseRun s).injection = s.injection ∧ (loseRun s).monitor = s.monitor ∧
    (loseRun s).pending = s.pending := by
  dsimp only [loseRun]; (repeat' split) <;> simp

@[simp] theorem beginRun_frame (s : State) :
    (beginRun s).timer = s.timer ∧ (beginRun s).inputs = s.inputs ∧ (beginRun s).pipeline = s.pipeline ∧
    (beginRun s).towers = s.towers ∧ (beginRun s).capture = s.capture ∧ (beginRun s).windows = s.windows ∧
    (beginRun s).recon = s.recon ∧ (beginRun s).buffer = s.buffer ∧ (beginRun s).readout = s.readout ∧
    (beginRun s).control = s.control ∧ (beginRun s).settings = s.settings ∧ (beginRun s).tracker = s.tracker ∧
    (beginRun s).injection = s.injection ∧ (beginRun s).monitor = s.monitor ∧ (beginRun s).pending = s.pending := by
  dsimp only [beginRun]; simp

@[simp] theorem drain_frame (s : State) :
    (drain s).timer = s.timer ∧ (drain s).inputs = s.inputs ∧ (drain s).pipeline = s.pipeline ∧
    (drain s).towers = s.towers ∧ (drain s).queue = s.queue ∧ (drain s).capture = s.capture ∧
    (drain s).windows = s.windows ∧ (drain s).recon = s.recon ∧ (drain s).buffer = s.buffer ∧
    (drain s).readout = s.readout ∧ (drain s).control = s.control ∧ (drain s).settings = s.settings ∧
    (drain s).tracker = s.tracker ∧ (drain s).injection = s.injection ∧ (drain s).monitor = s.monitor ∧
    (drain s).pending = s.pending := by
  dsimp only [drain]; (repeat' split) <;> simp

@[simp] theorem deliverPairs_frame (pairs : Oct CodePair) (s : State) :
    (deliverPairs pairs s).timer = s.timer ∧ (deliverPairs pairs s).run = s.run ∧ (deliverPairs pairs s).trigger = s.trigger ∧
    (deliverPairs pairs s).pipeline = s.pipeline ∧ (deliverPairs pairs s).towers = s.towers ∧ (deliverPairs pairs s).queue = s.queue ∧
    (deliverPairs pairs s).capture = s.capture ∧ (deliverPairs pairs s).windows = s.windows ∧ (deliverPairs pairs s).recon = s.recon ∧
    (deliverPairs pairs s).buffer = s.buffer ∧ (deliverPairs pairs s).readout = s.readout ∧ (deliverPairs pairs s).control = s.control ∧
    (deliverPairs pairs s).settings = s.settings ∧ (deliverPairs pairs s).tracker = s.tracker ∧ (deliverPairs pairs s).injection = s.injection ∧
    (deliverPairs pairs s).monitor = s.monitor ∧ (deliverPairs pairs s).pending = s.pending := by
  dsimp only [deliverPairs]; simp

@[simp] theorem writeColumn_frame (pairs : Oct CodePair) (s : State) :
    (writeColumn pairs s).timer = s.timer ∧ (writeColumn pairs s).run = s.run ∧ (writeColumn pairs s).trigger = s.trigger ∧
    (writeColumn pairs s).towers = s.towers ∧ (writeColumn pairs s).queue = s.queue ∧ (writeColumn pairs s).capture = s.capture ∧
    (writeColumn pairs s).windows = s.windows ∧ (writeColumn pairs s).recon = s.recon ∧ (writeColumn pairs s).buffer = s.buffer ∧
    (writeColumn pairs s).readout = s.readout ∧ (writeColumn pairs s).control = s.control ∧ (writeColumn pairs s).settings = s.settings ∧
    (writeColumn pairs s).tracker = s.tracker ∧ (writeColumn pairs s).injection = s.injection ∧ (writeColumn pairs s).pending = s.pending := by
  dsimp only [writeColumn]; (repeat' split) <;> simp

@[simp] theorem killChannel_frame (ch : Channel) (s : State) :
    (killChannel ch s).timer = s.timer ∧ (killChannel ch s).run = s.run ∧ (killChannel ch s).trigger = s.trigger ∧
    (killChannel ch s).pipeline = s.pipeline ∧ (killChannel ch s).towers = s.towers ∧ (killChannel ch s).queue = s.queue ∧
    (killChannel ch s).capture = s.capture ∧ (killChannel ch s).windows = s.windows ∧ (killChannel ch s).recon = s.recon ∧
    (killChannel ch s).buffer = s.buffer ∧ (killChannel ch s).readout = s.readout ∧ (killChannel ch s).control = s.control ∧
    (killChannel ch s).settings = s.settings ∧ (killChannel ch s).tracker = s.tracker ∧ (killChannel ch s).injection = s.injection ∧
    (killChannel ch s).pending = s.pending := by
  dsimp only [killChannel]; (repeat' split) <;> simp

@[simp] theorem killChannels_frame (s : State) :
    (killChannels s).timer = s.timer ∧ (killChannels s).run = s.run ∧ (killChannels s).trigger = s.trigger ∧
    (killChannels s).pipeline = s.pipeline ∧ (killChannels s).towers = s.towers ∧ (killChannels s).queue = s.queue ∧
    (killChannels s).capture = s.capture ∧ (killChannels s).windows = s.windows ∧ (killChannels s).recon = s.recon ∧
    (killChannels s).buffer = s.buffer ∧ (killChannels s).readout = s.readout ∧ (killChannels s).control = s.control ∧
    (killChannels s).settings = s.settings ∧ (killChannels s).tracker = s.tracker ∧ (killChannels s).injection = s.injection ∧
    (killChannels s).pending = s.pending := by
  refine ⟨?_, ?_, ?_, ?_, ?_, ?_, ?_, ?_, ?_, ?_, ?_, ?_, ?_, ?_, ?_, ?_⟩ <;> exact foldl_frame _ _ (fun _ _ => by simp) _ s

@[simp] theorem reviveChannel_frame (ch : Channel) (s : State) :
    (reviveChannel ch s).timer = s.timer ∧ (reviveChannel ch s).run = s.run ∧ (reviveChannel ch s).trigger = s.trigger ∧
    (reviveChannel ch s).pipeline = s.pipeline ∧ (reviveChannel ch s).towers = s.towers ∧ (reviveChannel ch s).queue = s.queue ∧
    (reviveChannel ch s).capture = s.capture ∧ (reviveChannel ch s).windows = s.windows ∧ (reviveChannel ch s).recon = s.recon ∧
    (reviveChannel ch s).buffer = s.buffer ∧ (reviveChannel ch s).readout = s.readout ∧ (reviveChannel ch s).control = s.control ∧
    (reviveChannel ch s).settings = s.settings ∧ (reviveChannel ch s).tracker = s.tracker ∧ (reviveChannel ch s).injection = s.injection ∧
    (reviveChannel ch s).monitor = s.monitor ∧ (reviveChannel ch s).pending = s.pending := by
  dsimp only [reviveChannel]; (repeat' split) <;> simp

@[simp] theorem setAccumulator_frame (s : State) (ch : Channel) (g : Gain) (a : Accumulator) :
    (setAccumulator s ch g a).timer = s.timer ∧ (setAccumulator s ch g a).run = s.run ∧ (setAccumulator s ch g a).trigger = s.trigger ∧
    (setAccumulator s ch g a).inputs = s.inputs ∧ (setAccumulator s ch g a).pipeline = s.pipeline ∧ (setAccumulator s ch g a).towers = s.towers ∧
    (setAccumulator s ch g a).queue = s.queue ∧ (setAccumulator s ch g a).capture = s.capture ∧ (setAccumulator s ch g a).windows = s.windows ∧
    (setAccumulator s ch g a).recon = s.recon ∧ (setAccumulator s ch g a).buffer = s.buffer ∧ (setAccumulator s ch g a).readout = s.readout ∧
    (setAccumulator s ch g a).control = s.control ∧ (setAccumulator s ch g a).settings = s.settings ∧ (setAccumulator s ch g a).injection = s.injection ∧
    (setAccumulator s ch g a).monitor = s.monitor ∧ (setAccumulator s ch g a).pending = s.pending := by
  dsimp only [setAccumulator]; simp

@[simp] theorem formCandidate_frame (ch : Channel) (g : Gain) (s : State) :
    (formCandidate ch g s).timer = s.timer ∧ (formCandidate ch g s).run = s.run ∧ (formCandidate ch g s).trigger = s.trigger ∧
    (formCandidate ch g s).inputs = s.inputs ∧ (formCandidate ch g s).pipeline = s.pipeline ∧ (formCandidate ch g s).towers = s.towers ∧
    (formCandidate ch g s).queue = s.queue ∧ (formCandidate ch g s).capture = s.capture ∧ (formCandidate ch g s).windows = s.windows ∧
    (formCandidate ch g s).recon = s.recon ∧ (formCandidate ch g s).buffer = s.buffer ∧ (formCandidate ch g s).readout = s.readout ∧
    (formCandidate ch g s).control = s.control ∧ (formCandidate ch g s).settings = s.settings ∧ (formCandidate ch g s).injection = s.injection ∧
    (formCandidate ch g s).pending = s.pending := by
  dsimp only [formCandidate]; (repeat' split) <;> simp

@[simp] theorem formCandidates_frame (s : State) :
    (formCandidates s).timer = s.timer ∧ (formCandidates s).run = s.run ∧ (formCandidates s).trigger = s.trigger ∧
    (formCandidates s).inputs = s.inputs ∧ (formCandidates s).pipeline = s.pipeline ∧ (formCandidates s).towers = s.towers ∧
    (formCandidates s).queue = s.queue ∧ (formCandidates s).capture = s.capture ∧ (formCandidates s).windows = s.windows ∧
    (formCandidates s).recon = s.recon ∧ (formCandidates s).buffer = s.buffer ∧ (formCandidates s).readout = s.readout ∧
    (formCandidates s).control = s.control ∧ (formCandidates s).settings = s.settings ∧ (formCandidates s).injection = s.injection ∧
    (formCandidates s).pending = s.pending := by
  refine ⟨?_, ?_, ?_, ?_, ?_, ?_, ?_, ?_, ?_, ?_, ?_, ?_, ?_, ?_, ?_, ?_⟩ <;> exact foldl_frame _ _ (fun _ _ => by simp) _ s

@[simp] theorem installCandidate_frame (ch : Channel) (g : Gain) (s : State) :
    (installCandidate ch g s).timer = s.timer ∧ (installCandidate ch g s).run = s.run ∧ (installCandidate ch g s).trigger = s.trigger ∧
    (installCandidate ch g s).inputs = s.inputs ∧ (installCandidate ch g s).pipeline = s.pipeline ∧ (installCandidate ch g s).towers = s.towers ∧
    (installCandidate ch g s).queue = s.queue ∧ (installCandidate ch g s).capture = s.capture ∧ (installCandidate ch g s).windows = s.windows ∧
    (installCandidate ch g s).recon = s.recon ∧ (installCandidate ch g s).buffer = s.buffer ∧ (installCandidate ch g s).readout = s.readout ∧
    (installCandidate ch g s).control = s.control ∧ (installCandidate ch g s).injection = s.injection ∧ (installCandidate ch g s).pending = s.pending := by
  dsimp only [installCandidate]; (repeat' split) <;> simp

@[simp] theorem installCandidates_frame (s : State) :
    (installCandidates s).timer = s.timer ∧ (installCandidates s).run = s.run ∧ (installCandidates s).trigger = s.trigger ∧
    (installCandidates s).inputs = s.inputs ∧ (installCandidates s).pipeline = s.pipeline ∧ (installCandidates s).towers = s.towers ∧
    (installCandidates s).queue = s.queue ∧ (installCandidates s).capture = s.capture ∧ (installCandidates s).windows = s.windows ∧
    (installCandidates s).recon = s.recon ∧ (installCandidates s).buffer = s.buffer ∧ (installCandidates s).readout = s.readout ∧
    (installCandidates s).control = s.control ∧ (installCandidates s).injection = s.injection ∧ (installCandidates s).pending = s.pending := by
  refine ⟨?_, ?_, ?_, ?_, ?_, ?_, ?_, ?_, ?_, ?_, ?_, ?_, ?_, ?_, ?_⟩ <;> exact foldl_frame _ _ (fun _ _ => by simp) _ s

@[simp] theorem accumulatePedestals_frame (pairs : Oct CodePair) (s : State) :
    (accumulatePedestals pairs s).timer = s.timer ∧ (accumulatePedestals pairs s).run = s.run ∧ (accumulatePedestals pairs s).trigger = s.trigger ∧
    (accumulatePedestals pairs s).inputs = s.inputs ∧ (accumulatePedestals pairs s).pipeline = s.pipeline ∧ (accumulatePedestals pairs s).towers = s.towers ∧
    (accumulatePedestals pairs s).queue = s.queue ∧ (accumulatePedestals pairs s).capture = s.capture ∧ (accumulatePedestals pairs s).windows = s.windows ∧
    (accumulatePedestals pairs s).recon = s.recon ∧ (accumulatePedestals pairs s).buffer = s.buffer ∧ (accumulatePedestals pairs s).readout = s.readout ∧
    (accumulatePedestals pairs s).control = s.control ∧ (accumulatePedestals pairs s).settings = s.settings ∧ (accumulatePedestals pairs s).injection = s.injection ∧
    (accumulatePedestals pairs s).monitor = s.monitor ∧ (accumulatePedestals pairs s).pending = s.pending := by
  dsimp only [accumulatePedestals]; (repeat' split) <;> simp

@[simp] theorem fireTest_frame (s : State) :
    (fireTest s).run = s.run ∧ (fireTest s).trigger = s.trigger ∧ (fireTest s).inputs = s.inputs ∧
    (fireTest s).pipeline = s.pipeline ∧ (fireTest s).towers = s.towers ∧ (fireTest s).queue = s.queue ∧
    (fireTest s).capture = s.capture ∧ (fireTest s).windows = s.windows ∧ (fireTest s).recon = s.recon ∧
    (fireTest s).buffer = s.buffer ∧ (fireTest s).readout = s.readout ∧ (fireTest s).control = s.control ∧
    (fireTest s).settings = s.settings ∧ (fireTest s).tracker = s.tracker ∧ (fireTest s).monitor = s.monitor ∧
    (fireTest s).pending = s.pending := by
  dsimp only [fireTest]; (repeat' split) <;> simp

@[simp] theorem stepScan_frame (s : State) :
    (stepScan s).timer = s.timer ∧ (stepScan s).run = s.run ∧ (stepScan s).trigger = s.trigger ∧
    (stepScan s).inputs = s.inputs ∧ (stepScan s).pipeline = s.pipeline ∧ (stepScan s).towers = s.towers ∧
    (stepScan s).queue = s.queue ∧ (stepScan s).capture = s.capture ∧ (stepScan s).windows = s.windows ∧
    (stepScan s).recon = s.recon ∧ (stepScan s).buffer = s.buffer ∧ (stepScan s).readout = s.readout ∧
    (stepScan s).control = s.control ∧ (stepScan s).settings = s.settings ∧ (stepScan s).tracker = s.tracker ∧
    (stepScan s).monitor = s.monitor ∧ (stepScan s).pending = s.pending := by
  dsimp only [stepScan]; (repeat' split) <;> simp

@[simp] theorem startScan_frame (s : State) :
    (startScan s).timer = s.timer ∧ (startScan s).run = s.run ∧ (startScan s).trigger = s.trigger ∧
    (startScan s).inputs = s.inputs ∧ (startScan s).pipeline = s.pipeline ∧ (startScan s).towers = s.towers ∧
    (startScan s).queue = s.queue ∧ (startScan s).capture = s.capture ∧ (startScan s).windows = s.windows ∧
    (startScan s).recon = s.recon ∧ (startScan s).buffer = s.buffer ∧ (startScan s).readout = s.readout ∧
    (startScan s).control = s.control ∧ (startScan s).settings = s.settings ∧ (startScan s).tracker = s.tracker ∧
    (startScan s).monitor = s.monitor ∧ (startScan s).pending = s.pending := by
  dsimp only [startScan]; simp

@[simp] theorem stopScan_frame (s : State) :
    (stopScan s).timer = s.timer ∧ (stopScan s).run = s.run ∧ (stopScan s).trigger = s.trigger ∧
    (stopScan s).inputs = s.inputs ∧ (stopScan s).pipeline = s.pipeline ∧ (stopScan s).towers = s.towers ∧
    (stopScan s).queue = s.queue ∧ (stopScan s).capture = s.capture ∧ (stopScan s).windows = s.windows ∧
    (stopScan s).recon = s.recon ∧ (stopScan s).buffer = s.buffer ∧ (stopScan s).readout = s.readout ∧
    (stopScan s).control = s.control ∧ (stopScan s).settings = s.settings ∧ (stopScan s).tracker = s.tracker ∧
    (stopScan s).monitor = s.monitor ∧ (stopScan s).pending = s.pending := by
  dsimp only [stopScan]; simp

@[simp] theorem scheduleTake_frame (s : State) :
    (scheduleTake s).timer = s.timer ∧ (scheduleTake s).run = s.run ∧ (scheduleTake s).trigger = s.trigger ∧
    (scheduleTake s).inputs = s.inputs ∧ (scheduleTake s).pipeline = s.pipeline ∧ (scheduleTake s).towers = s.towers ∧
    (scheduleTake s).queue = s.queue ∧ (scheduleTake s).capture = s.capture ∧ (scheduleTake s).windows = s.windows ∧
    (scheduleTake s).recon = s.recon ∧ (scheduleTake s).buffer = s.buffer ∧ (scheduleTake s).readout = s.readout ∧
    (scheduleTake s).control = s.control ∧ (scheduleTake s).tracker = s.tracker ∧ (scheduleTake s).injection = s.injection ∧
    (scheduleTake s).monitor = s.monitor ∧ (scheduleTake s).pending = s.pending := by
  dsimp only [scheduleTake]; (repeat' split) <;> simp

@[simp] theorem cancelScheduled_frame (s : State) :
    (cancelScheduled s).timer = s.timer ∧ (cancelScheduled s).run = s.run ∧ (cancelScheduled s).trigger = s.trigger ∧
    (cancelScheduled s).inputs = s.inputs ∧ (cancelScheduled s).pipeline = s.pipeline ∧ (cancelScheduled s).towers = s.towers ∧
    (cancelScheduled s).queue = s.queue ∧ (cancelScheduled s).capture = s.capture ∧ (cancelScheduled s).windows = s.windows ∧
    (cancelScheduled s).recon = s.recon ∧ (cancelScheduled s).buffer = s.buffer ∧ (cancelScheduled s).readout = s.readout ∧
    (cancelScheduled s).control = s.control ∧ (cancelScheduled s).tracker = s.tracker ∧ (cancelScheduled s).injection = s.injection ∧
    (cancelScheduled s).monitor = s.monitor ∧ (cancelScheduled s).pending = s.pending := by
  dsimp only [cancelScheduled]; simp

@[simp] theorem applyTake_frame (s : State) :
    (applyTake s).timer = s.timer ∧ (applyTake s).run = s.run ∧ (applyTake s).trigger = s.trigger ∧
    (applyTake s).inputs = s.inputs ∧ (applyTake s).pipeline = s.pipeline ∧ (applyTake s).towers = s.towers ∧
    (applyTake s).queue = s.queue ∧ (applyTake s).capture = s.capture ∧ (applyTake s).windows = s.windows ∧
    (applyTake s).recon = s.recon ∧ (applyTake s).buffer = s.buffer ∧ (applyTake s).readout = s.readout ∧
    (applyTake s).control = s.control ∧ (applyTake s).injection = s.injection ∧ (applyTake s).monitor = s.monitor ∧
    (applyTake s).pending = s.pending := by
  dsimp only [applyTake]; (repeat' split) <;> simp

@[simp] theorem countGeneration_frame (before : List (Nat × Int)) (s : State) :
    (countGeneration before s).timer = s.timer ∧ (countGeneration before s).run = s.run ∧ (countGeneration before s).trigger = s.trigger ∧
    (countGeneration before s).inputs = s.inputs ∧ (countGeneration before s).pipeline = s.pipeline ∧ (countGeneration before s).towers = s.towers ∧
    (countGeneration before s).queue = s.queue ∧ (countGeneration before s).capture = s.capture ∧ (countGeneration before s).windows = s.windows ∧
    (countGeneration before s).recon = s.recon ∧ (countGeneration before s).buffer = s.buffer ∧ (countGeneration before s).readout = s.readout ∧
    (countGeneration before s).control = s.control ∧ (countGeneration before s).tracker = s.tracker ∧ (countGeneration before s).injection = s.injection ∧
    (countGeneration before s).monitor = s.monitor ∧ (countGeneration before s).pending = s.pending := by
  dsimp only [countGeneration]; (repeat' split) <;> simp

@[simp] theorem settingsBoundary_frame (s : State) :
    (settingsBoundary s).timer = s.timer ∧ (settingsBoundary s).run = s.run ∧ (settingsBoundary s).trigger = s.trigger ∧
    (settingsBoundary s).inputs = s.inputs ∧ (settingsBoundary s).pipeline = s.pipeline ∧ (settingsBoundary s).towers = s.towers ∧
    (settingsBoundary s).queue = s.queue ∧ (settingsBoundary s).capture = s.capture ∧ (settingsBoundary s).windows = s.windows ∧
    (settingsBoundary s).recon = s.recon ∧ (settingsBoundary s).buffer = s.buffer ∧ (settingsBoundary s).readout = s.readout ∧
    (settingsBoundary s).control = s.control ∧ (settingsBoundary s).injection = s.injection ∧ (settingsBoundary s).pending = s.pending := by
  dsimp only [settingsBoundary]; simp

@[simp] theorem updateTowers_frame (s : State) :
    (updateTowers s).timer = s.timer ∧ (updateTowers s).run = s.run ∧ (updateTowers s).trigger = s.trigger ∧
    (updateTowers s).inputs = s.inputs ∧ (updateTowers s).pipeline = s.pipeline ∧ (updateTowers s).queue = s.queue ∧
    (updateTowers s).capture = s.capture ∧ (updateTowers s).windows = s.windows ∧ (updateTowers s).recon = s.recon ∧
    (updateTowers s).buffer = s.buffer ∧ (updateTowers s).readout = s.readout ∧ (updateTowers s).control = s.control ∧
    (updateTowers s).settings = s.settings ∧ (updateTowers s).tracker = s.tracker ∧ (updateTowers s).injection = s.injection ∧
    (updateTowers s).monitor = s.monitor ∧ (updateTowers s).pending = s.pending := by
  dsimp only [updateTowers]; (repeat' split) <;> simp

@[simp] theorem reportTowers_frame (s : State) :
    (reportTowers s).timer = s.timer ∧ (reportTowers s).run = s.run ∧ (reportTowers s).trigger = s.trigger ∧
    (reportTowers s).inputs = s.inputs ∧ (reportTowers s).pipeline = s.pipeline ∧ (reportTowers s).towers = s.towers ∧
    (reportTowers s).queue = s.queue ∧ (reportTowers s).capture = s.capture ∧ (reportTowers s).windows = s.windows ∧
    (reportTowers s).recon = s.recon ∧ (reportTowers s).buffer = s.buffer ∧ (reportTowers s).readout = s.readout ∧
    (reportTowers s).control = s.control ∧ (reportTowers s).settings = s.settings ∧ (reportTowers s).tracker = s.tracker ∧
    (reportTowers s).injection = s.injection ∧ (reportTowers s).pending = s.pending := by
  refine ⟨?_, ?_, ?_, ?_, ?_, ?_, ?_, ?_, ?_, ?_, ?_, ?_, ?_, ?_, ?_, ?_, ?_⟩ <;> exact foldl_frame _ _ (fun _ _ => by simp) _ s

@[simp] theorem evaluateThrottle_frame (s : State) :
    (evaluateThrottle s).timer = s.timer ∧ (evaluateThrottle s).run = s.run ∧ (evaluateThrottle s).inputs = s.inputs ∧
    (evaluateThrottle s).pipeline = s.pipeline ∧ (evaluateThrottle s).towers = s.towers ∧ (evaluateThrottle s).queue = s.queue ∧
    (evaluateThrottle s).capture = s.capture ∧ (evaluateThrottle s).windows = s.windows ∧ (evaluateThrottle s).recon = s.recon ∧
    (evaluateThrottle s).buffer = s.buffer ∧ (evaluateThrottle s).readout = s.readout ∧ (evaluateThrottle s).control = s.control ∧
    (evaluateThrottle s).settings = s.settings ∧ (evaluateThrottle s).tracker = s.tracker ∧ (evaluateThrottle s).injection = s.injection ∧
    (evaluateThrottle s).monitor = s.monitor ∧ (evaluateThrottle s).pending = s.pending := by
  dsimp only [evaluateThrottle]; (repeat' split) <;> simp

@[simp] theorem sendUplink_frame (s : State) :
    (sendUplink s).timer = s.timer ∧ (sendUplink s).run = s.run ∧ (sendUplink s).inputs = s.inputs ∧
    (sendUplink s).pipeline = s.pipeline ∧ (sendUplink s).towers = s.towers ∧ (sendUplink s).queue = s.queue ∧
    (sendUplink s).capture = s.capture ∧ (sendUplink s).windows = s.windows ∧ (sendUplink s).recon = s.recon ∧
    (sendUplink s).buffer = s.buffer ∧ (sendUplink s).readout = s.readout ∧ (sendUplink s).control = s.control ∧
    (sendUplink s).settings = s.settings ∧ (sendUplink s).tracker = s.tracker ∧ (sendUplink s).injection = s.injection ∧
    (sendUplink s).monitor = s.monitor ∧ (sendUplink s).pending = s.pending := by
  dsimp only [sendUplink]; simp

@[simp] theorem endAtOnce_frame (w : Window) (truncated : Bool) (s : State) :
    (endAtOnce w truncated s).timer = s.timer ∧ (endAtOnce w truncated s).run = s.run ∧ (endAtOnce w truncated s).trigger = s.trigger ∧
    (endAtOnce w truncated s).inputs = s.inputs ∧ (endAtOnce w truncated s).pipeline = s.pipeline ∧ (endAtOnce w truncated s).towers = s.towers ∧
    (endAtOnce w truncated s).queue = s.queue ∧ (endAtOnce w truncated s).capture = s.capture ∧ (endAtOnce w truncated s).recon = s.recon ∧
    (endAtOnce w truncated s).readout = s.readout ∧ (endAtOnce w truncated s).control = s.control ∧ (endAtOnce w truncated s).settings = s.settings ∧
    (endAtOnce w truncated s).tracker = s.tracker ∧ (endAtOnce w truncated s).injection = s.injection ∧ (endAtOnce w truncated s).monitor = s.monitor ∧
    (endAtOnce w truncated s).pending = s.pending := by
  dsimp only [endAtOnce]; simp

@[simp] theorem beginBuilding_frame (w : Window) (s : State) :
    (beginBuilding w s).timer = s.timer ∧ (beginBuilding w s).run = s.run ∧ (beginBuilding w s).trigger = s.trigger ∧
    (beginBuilding w s).inputs = s.inputs ∧ (beginBuilding w s).pipeline = s.pipeline ∧ (beginBuilding w s).towers = s.towers ∧
    (beginBuilding w s).queue = s.queue ∧ (beginBuilding w s).capture = s.capture ∧ (beginBuilding w s).readout = s.readout ∧
    (beginBuilding w s).control = s.control ∧ (beginBuilding w s).settings = s.settings ∧ (beginBuilding w s).tracker = s.tracker ∧
    (beginBuilding w s).injection = s.injection ∧ (beginBuilding w s).monitor = s.monitor ∧ (beginBuilding w s).pending = s.pending := by
  dsimp only [beginBuilding]; simp

@[simp] theorem beginEvent_frame (w : Window) (s : State) :
    (beginEvent w s).timer = s.timer ∧ (beginEvent w s).run = s.run ∧ (beginEvent w s).trigger = s.trigger ∧
    (beginEvent w s).inputs = s.inputs ∧ (beginEvent w s).pipeline = s.pipeline ∧ (beginEvent w s).towers = s.towers ∧
    (beginEvent w s).queue = s.queue ∧ (beginEvent w s).capture = s.capture ∧ (beginEvent w s).readout = s.readout ∧
    (beginEvent w s).control = s.control ∧ (beginEvent w s).settings = s.settings ∧ (beginEvent w s).tracker = s.tracker ∧
    (beginEvent w s).injection = s.injection ∧ (beginEvent w s).pending = s.pending := by
  dsimp only [beginEvent]; (repeat' split) <;> simp

@[simp] theorem markLook_frame (s : State) :
    (markLook s).run = s.run ∧ (markLook s).trigger = s.trigger ∧ (markLook s).inputs = s.inputs ∧
    (markLook s).pipeline = s.pipeline ∧ (markLook s).towers = s.towers ∧ (markLook s).queue = s.queue ∧
    (markLook s).capture = s.capture ∧ (markLook s).windows = s.windows ∧ (markLook s).recon = s.recon ∧
    (markLook s).buffer = s.buffer ∧ (markLook s).readout = s.readout ∧ (markLook s).control = s.control ∧
    (markLook s).settings = s.settings ∧ (markLook s).tracker = s.tracker ∧ (markLook s).injection = s.injection ∧
    (markLook s).monitor = s.monitor ∧ (markLook s).pending = s.pending := by
  dsimp only [markLook]; simp

@[simp] theorem beginReconstruction_frame (s : State) :
    (beginReconstruction s).run = s.run ∧ (beginReconstruction s).trigger = s.trigger ∧ (beginReconstruction s).inputs = s.inputs ∧
    (beginReconstruction s).pipeline = s.pipeline ∧ (beginReconstruction s).towers = s.towers ∧ (beginReconstruction s).queue = s.queue ∧
    (beginReconstruction s).capture = s.capture ∧ (beginReconstruction s).readout = s.readout ∧ (beginReconstruction s).control = s.control ∧
    (beginReconstruction s).settings = s.settings ∧ (beginReconstruction s).tracker = s.tracker ∧ (beginReconstruction s).injection = s.injection ∧
    (beginReconstruction s).pending = s.pending := by
  dsimp only [beginReconstruction]; (repeat' split) <;> simp

@[simp] theorem placeChannel_frame (b : Building) (start : Nat) (w : Window) (s : State) :
    (placeChannel b start w s).timer = s.timer ∧ (placeChannel b start w s).run = s.run ∧ (placeChannel b start w s).trigger = s.trigger ∧
    (placeChannel b start w s).inputs = s.inputs ∧ (placeChannel b start w s).pipeline = s.pipeline ∧ (placeChannel b start w s).towers = s.towers ∧
    (placeChannel b start w s).queue = s.queue ∧ (placeChannel b start w s).capture = s.capture ∧ (placeChannel b start w s).windows = s.windows ∧
    (placeChannel b start w s).readout = s.readout ∧ (placeChannel b start w s).control = s.control ∧ (placeChannel b start w s).settings = s.settings ∧
    (placeChannel b start w s).tracker = s.tracker ∧ (placeChannel b start w s).injection = s.injection ∧ (placeChannel b start w s).monitor = s.monitor ∧
    (placeChannel b start w s).pending = s.pending := by
  dsimp only [placeChannel]; (repeat' split) <;> simp

@[simp] theorem completeEvent_frame (s : State) :
    (completeEvent s).timer = s.timer ∧ (completeEvent s).run = s.run ∧ (completeEvent s).trigger = s.trigger ∧
    (completeEvent s).inputs = s.inputs ∧ (completeEvent s).pipeline = s.pipeline ∧ (completeEvent s).towers = s.towers ∧
    (completeEvent s).queue = s.queue ∧ (completeEvent s).capture = s.capture ∧ (completeEvent s).readout = s.readout ∧
    (completeEvent s).control = s.control ∧ (completeEvent s).settings = s.settings ∧ (completeEvent s).tracker = s.tracker ∧
    (completeEvent s).injection = s.injection ∧ (completeEvent s).monitor = s.monitor ∧ (completeEvent s).pending = s.pending := by
  dsimp only [completeEvent]; (repeat' split) <;> simp

@[simp] theorem advanceReconstruction_frame (s : State) :
    (advanceReconstruction s).timer = s.timer ∧ (advanceReconstruction s).run = s.run ∧ (advanceReconstruction s).trigger = s.trigger ∧
    (advanceReconstruction s).inputs = s.inputs ∧ (advanceReconstruction s).pipeline = s.pipeline ∧ (advanceReconstruction s).towers = s.towers ∧
    (advanceReconstruction s).queue = s.queue ∧ (advanceReconstruction s).capture = s.capture ∧ (advanceReconstruction s).windows = s.windows ∧
    (advanceReconstruction s).readout = s.readout ∧ (advanceReconstruction s).control = s.control ∧ (advanceReconstruction s).settings = s.settings ∧
    (advanceReconstruction s).tracker = s.tracker ∧ (advanceReconstruction s).injection = s.injection ∧ (advanceReconstruction s).monitor = s.monitor ∧
    (advanceReconstruction s).pending = s.pending := by
  dsimp only [advanceReconstruction]; (repeat' split) <;> simp

@[simp] theorem abandonEvent_frame (s : State) :
    (abandonEvent s).timer = s.timer ∧ (abandonEvent s).run = s.run ∧ (abandonEvent s).trigger = s.trigger ∧
    (abandonEvent s).inputs = s.inputs ∧ (abandonEvent s).pipeline = s.pipeline ∧ (abandonEvent s).towers = s.towers ∧
    (abandonEvent s).queue = s.queue ∧ (abandonEvent s).capture = s.capture ∧ (abandonEvent s).readout = s.readout ∧
    (abandonEvent s).control = s.control ∧ (abandonEvent s).settings = s.settings ∧ (abandonEvent s).tracker = s.tracker ∧
    (abandonEvent s).injection = s.injection ∧ (abandonEvent s).monitor = s.monitor ∧ (abandonEvent s).pending = s.pending := by
  dsimp only [abandonEvent]; (repeat' split) <;> simp

@[simp] theorem completeDue_frame (s : State) :
    (completeDue s).timer = s.timer ∧ (completeDue s).run = s.run ∧ (completeDue s).trigger = s.trigger ∧
    (completeDue s).inputs = s.inputs ∧ (completeDue s).pipeline = s.pipeline ∧ (completeDue s).towers = s.towers ∧
    (completeDue s).queue = s.queue ∧ (completeDue s).capture = s.capture ∧ (completeDue s).readout = s.readout ∧
    (completeDue s).control = s.control ∧ (completeDue s).settings = s.settings ∧ (completeDue s).tracker = s.tracker ∧
    (completeDue s).injection = s.injection ∧ (completeDue s).monitor = s.monitor ∧ (completeDue s).pending = s.pending := by
  dsimp only [completeDue]; (repeat' split) <;> simp

@[simp] theorem makeDue_frame (s : State) :
    (makeDue s).timer = s.timer ∧ (makeDue s).run = s.run ∧ (makeDue s).trigger = s.trigger ∧
    (makeDue s).pipeline = s.pipeline ∧ (makeDue s).towers = s.towers ∧ (makeDue s).queue = s.queue ∧
    (makeDue s).capture = s.capture ∧ (makeDue s).windows = s.windows ∧ (makeDue s).recon = s.recon ∧
    (makeDue s).buffer = s.buffer ∧ (makeDue s).readout = s.readout ∧ (makeDue s).control = s.control ∧
    (makeDue s).settings = s.settings ∧ (makeDue s).pending = s.pending := by
  dsimp only [makeDue]; simp

@[simp] theorem settleRequest_frame (s : State) :
    (settleRequest s).timer = s.timer ∧ (settleRequest s).pipeline = s.pipeline ∧ (settleRequest s).towers = s.towers ∧
    (settleRequest s).queue = s.queue ∧ (settleRequest s).capture = s.capture ∧ (settleRequest s).windows = s.windows ∧
    (settleRequest s).recon = s.recon ∧ (settleRequest s).buffer = s.buffer ∧ (settleRequest s).readout = s.readout ∧
    (settleRequest s).control = s.control ∧ (settleRequest s).settings = s.settings ∧ (settleRequest s).pending = s.pending := by
  dsimp only [settleRequest]; simp

@[simp] theorem settle_frame (s : State) :
    (settle s).timer = s.timer ∧ (settle s).pipeline = s.pipeline ∧ (settle s).towers = s.towers ∧
    (settle s).queue = s.queue ∧ (settle s).capture = s.capture ∧ (settle s).readout = s.readout ∧
    (settle s).control = s.control ∧ (settle s).settings = s.settings ∧ (settle s).pending = s.pending := by
  dsimp only [settle]; simp

@[simp] theorem openCrossing_frame (s : State) :
    (openCrossing s).pipeline = s.pipeline ∧ (openCrossing s).towers = s.towers ∧ (openCrossing s).queue = s.queue ∧
    (openCrossing s).capture = s.capture ∧ (openCrossing s).readout = s.readout ∧ (openCrossing s).control = s.control ∧
    (openCrossing s).settings = s.settings ∧ (openCrossing s).pending = s.pending := by
  dsimp only [openCrossing]; (repeat' split) <;> simp

@[simp] theorem updateForming_frame (f : Forming → Forming) (s : State) :
    (updateForming f s).run = s.run ∧ (updateForming f s).trigger = s.trigger ∧ (updateForming f s).inputs = s.inputs ∧
    (updateForming f s).pipeline = s.pipeline ∧ (updateForming f s).towers = s.towers ∧ (updateForming f s).queue = s.queue ∧
    (updateForming f s).capture = s.capture ∧ (updateForming f s).windows = s.windows ∧ (updateForming f s).recon = s.recon ∧
    (updateForming f s).buffer = s.buffer ∧ (updateForming f s).readout = s.readout ∧ (updateForming f s).control = s.control ∧
    (updateForming f s).settings = s.settings ∧ (updateForming f s).tracker = s.tracker ∧ (updateForming f s).injection = s.injection ∧
    (updateForming f s).monitor = s.monitor ∧ (updateForming f s).pending = s.pending := by
  dsimp only [updateForming]; simp

@[simp] theorem formNumber_frame (s : State) :
    (formNumber s).run = s.run ∧ (formNumber s).trigger = s.trigger ∧ (formNumber s).inputs = s.inputs ∧
    (formNumber s).pipeline = s.pipeline ∧ (formNumber s).towers = s.towers ∧ (formNumber s).queue = s.queue ∧
    (formNumber s).capture = s.capture ∧ (formNumber s).windows = s.windows ∧ (formNumber s).recon = s.recon ∧
    (formNumber s).buffer = s.buffer ∧ (formNumber s).readout = s.readout ∧ (formNumber s).control = s.control ∧
    (formNumber s).settings = s.settings ∧ (formNumber s).tracker = s.tracker ∧ (formNumber s).injection = s.injection ∧
    (formNumber s).monitor = s.monitor ∧ (formNumber s).pending = s.pending := by
  dsimp only [formNumber]; (repeat' split) <;> simp

@[simp] theorem startingRunBegins_frame (s : State) :
    (startingRunBegins s).timer = s.timer ∧ (startingRunBegins s).inputs = s.inputs ∧ (startingRunBegins s).pipeline = s.pipeline ∧
    (startingRunBegins s).towers = s.towers ∧ (startingRunBegins s).capture = s.capture ∧ (startingRunBegins s).windows = s.windows ∧
    (startingRunBegins s).recon = s.recon ∧ (startingRunBegins s).buffer = s.buffer ∧ (startingRunBegins s).readout = s.readout ∧
    (startingRunBegins s).control = s.control ∧ (startingRunBegins s).settings = s.settings ∧ (startingRunBegins s).tracker = s.tracker ∧
    (startingRunBegins s).injection = s.injection ∧ (startingRunBegins s).monitor = s.monitor ∧ (startingRunBegins s).pending = s.pending := by
  dsimp only [startingRunBegins]; (repeat' split) <;> simp

@[simp] theorem takeBoundary_frame (s : State) :
    (takeBoundary s).inputs = s.inputs ∧ (takeBoundary s).pipeline = s.pipeline ∧ (takeBoundary s).towers = s.towers ∧
    (takeBoundary s).capture = s.capture ∧ (takeBoundary s).windows = s.windows ∧ (takeBoundary s).recon = s.recon ∧
    (takeBoundary s).buffer = s.buffer ∧ (takeBoundary s).readout = s.readout ∧ (takeBoundary s).control = s.control ∧
    (takeBoundary s).injection = s.injection ∧ (takeBoundary s).pending = s.pending := by
  dsimp only [takeBoundary]; (repeat' split) <;> simp

@[simp] theorem enterCrossing_frame (s : State) :
    (enterCrossing s).pipeline = s.pipeline ∧ (enterCrossing s).towers = s.towers ∧ (enterCrossing s).capture = s.capture ∧
    (enterCrossing s).readout = s.readout ∧ (enterCrossing s).control = s.control ∧ (enterCrossing s).pending = s.pending := by
  dsimp only [enterCrossing]; simp

@[simp] theorem markFrame_frame (s : State) :
    (markFrame s).run = s.run ∧ (markFrame s).trigger = s.trigger ∧ (markFrame s).inputs = s.inputs ∧
    (markFrame s).pipeline = s.pipeline ∧ (markFrame s).towers = s.towers ∧ (markFrame s).queue = s.queue ∧
    (markFrame s).capture = s.capture ∧ (markFrame s).windows = s.windows ∧ (markFrame s).recon = s.recon ∧
    (markFrame s).buffer = s.buffer ∧ (markFrame s).readout = s.readout ∧ (markFrame s).control = s.control ∧
    (markFrame s).settings = s.settings ∧ (markFrame s).tracker = s.tracker ∧ (markFrame s).injection = s.injection ∧
    (markFrame s).monitor = s.monitor ∧ (markFrame s).pending = s.pending := by
  dsimp only [markFrame]; simp

@[simp] theorem takeMarker_frame (s : State) :
    (takeMarker s).inputs = s.inputs ∧ (takeMarker s).pipeline = s.pipeline ∧ (takeMarker s).towers = s.towers ∧
    (takeMarker s).capture = s.capture ∧ (takeMarker s).windows = s.windows ∧ (takeMarker s).recon = s.recon ∧
    (takeMarker s).buffer = s.buffer ∧ (takeMarker s).readout = s.readout ∧ (takeMarker s).control = s.control ∧
    (takeMarker s).settings = s.settings ∧ (takeMarker s).tracker = s.tracker ∧ (takeMarker s).injection = s.injection ∧
    (takeMarker s).pending = s.pending := by
  dsimp only [takeMarker]; (repeat' split) <;> simp

@[simp] theorem countDiscarded_frame (s : State) :
    (countDiscarded s).timer = s.timer ∧ (countDiscarded s).trigger = s.trigger ∧ (countDiscarded s).inputs = s.inputs ∧
    (countDiscarded s).pipeline = s.pipeline ∧ (countDiscarded s).towers = s.towers ∧ (countDiscarded s).queue = s.queue ∧
    (countDiscarded s).capture = s.capture ∧ (countDiscarded s).windows = s.windows ∧ (countDiscarded s).recon = s.recon ∧
    (countDiscarded s).buffer = s.buffer ∧ (countDiscarded s).readout = s.readout ∧ (countDiscarded s).control = s.control ∧
    (countDiscarded s).settings = s.settings ∧ (countDiscarded s).tracker = s.tracker ∧ (countDiscarded s).injection = s.injection ∧
    (countDiscarded s).monitor = s.monitor ∧ (countDiscarded s).pending = s.pending := by
  dsimp only [countDiscarded]; simp

@[simp] theorem countIgnored_frame (s : State) :
    (countIgnored s).timer = s.timer ∧ (countIgnored s).trigger = s.trigger ∧ (countIgnored s).inputs = s.inputs ∧
    (countIgnored s).pipeline = s.pipeline ∧ (countIgnored s).towers = s.towers ∧ (countIgnored s).queue = s.queue ∧
    (countIgnored s).capture = s.capture ∧ (countIgnored s).windows = s.windows ∧ (countIgnored s).recon = s.recon ∧
    (countIgnored s).buffer = s.buffer ∧ (countIgnored s).readout = s.readout ∧ (countIgnored s).control = s.control ∧
    (countIgnored s).settings = s.settings ∧ (countIgnored s).tracker = s.tracker ∧ (countIgnored s).injection = s.injection ∧
    (countIgnored s).monitor = s.monitor ∧ (countIgnored s).pending = s.pending := by
  dsimp only [countIgnored]; simp

@[simp] theorem intakeAccept_frame (n : Nat) (s : State) :
    (intakeAccept n s).timer = s.timer ∧ (intakeAccept n s).inputs = s.inputs ∧ (intakeAccept n s).pipeline = s.pipeline ∧
    (intakeAccept n s).towers = s.towers ∧ (intakeAccept n s).capture = s.capture ∧ (intakeAccept n s).windows = s.windows ∧
    (intakeAccept n s).recon = s.recon ∧ (intakeAccept n s).buffer = s.buffer ∧ (intakeAccept n s).readout = s.readout ∧
    (intakeAccept n s).control = s.control ∧ (intakeAccept n s).settings = s.settings ∧ (intakeAccept n s).tracker = s.tracker ∧
    (intakeAccept n s).injection = s.injection ∧ (intakeAccept n s).pending = s.pending := by
  dsimp only [intakeAccept]; (repeat' split) <;> simp

@[simp] theorem takeAccept_frame (s : State) :
    (takeAccept s).timer = s.timer ∧ (takeAccept s).inputs = s.inputs ∧ (takeAccept s).pipeline = s.pipeline ∧
    (takeAccept s).towers = s.towers ∧ (takeAccept s).capture = s.capture ∧ (takeAccept s).windows = s.windows ∧
    (takeAccept s).recon = s.recon ∧ (takeAccept s).buffer = s.buffer ∧ (takeAccept s).readout = s.readout ∧
    (takeAccept s).control = s.control ∧ (takeAccept s).settings = s.settings ∧ (takeAccept s).tracker = s.tracker ∧
    (takeAccept s).injection = s.injection ∧ (takeAccept s).pending = s.pending := by
  dsimp only [takeAccept]; (repeat' split) <;> simp

@[simp] theorem diagnosticIntake_frame (a : Nat) (s : State) :
    (diagnosticIntake a s).timer = s.timer ∧ (diagnosticIntake a s).run = s.run ∧ (diagnosticIntake a s).trigger = s.trigger ∧
    (diagnosticIntake a s).inputs = s.inputs ∧ (diagnosticIntake a s).pipeline = s.pipeline ∧ (diagnosticIntake a s).towers = s.towers ∧
    (diagnosticIntake a s).capture = s.capture ∧ (diagnosticIntake a s).windows = s.windows ∧ (diagnosticIntake a s).recon = s.recon ∧
    (diagnosticIntake a s).buffer = s.buffer ∧ (diagnosticIntake a s).readout = s.readout ∧ (diagnosticIntake a s).control = s.control ∧
    (diagnosticIntake a s).settings = s.settings ∧ (diagnosticIntake a s).tracker = s.tracker ∧ (diagnosticIntake a s).injection = s.injection ∧
    (diagnosticIntake a s).monitor = s.monitor ∧ (diagnosticIntake a s).pending = s.pending := by
  dsimp only [diagnosticIntake]; (repeat' split) <;> simp

@[simp] theorem markCapture_frame (s : State) :
    (markCapture s).run = s.run ∧ (markCapture s).trigger = s.trigger ∧ (markCapture s).inputs = s.inputs ∧
    (markCapture s).pipeline = s.pipeline ∧ (markCapture s).towers = s.towers ∧ (markCapture s).queue = s.queue ∧
    (markCapture s).capture = s.capture ∧ (markCapture s).windows = s.windows ∧ (markCapture s).recon = s.recon ∧
    (markCapture s).buffer = s.buffer ∧ (markCapture s).readout = s.readout ∧ (markCapture s).control = s.control ∧
    (markCapture s).settings = s.settings ∧ (markCapture s).tracker = s.tracker ∧ (markCapture s).injection = s.injection ∧
    (markCapture s).monitor = s.monitor ∧ (markCapture s).pending = s.pending := by
  dsimp only [markCapture]; simp

@[simp] theorem beginCapture_frame (s : State) :
    (beginCapture s).run = s.run ∧ (beginCapture s).trigger = s.trigger ∧ (beginCapture s).inputs = s.inputs ∧
    (beginCapture s).pipeline = s.pipeline ∧ (beginCapture s).towers = s.towers ∧ (beginCapture s).recon = s.recon ∧
    (beginCapture s).buffer = s.buffer ∧ (beginCapture s).readout = s.readout ∧ (beginCapture s).control = s.control ∧
    (beginCapture s).settings = s.settings ∧ (beginCapture s).tracker = s.tracker ∧ (beginCapture s).injection = s.injection ∧
    (beginCapture s).pending = s.pending := by
  dsimp only [beginCapture]; (repeat' split) <;> simp

@[simp] theorem copyColumn_frame (s : State) :
    (copyColumn s).timer = s.timer ∧ (copyColumn s).run = s.run ∧ (copyColumn s).trigger = s.trigger ∧
    (copyColumn s).inputs = s.inputs ∧ (copyColumn s).pipeline = s.pipeline ∧ (copyColumn s).towers = s.towers ∧
    (copyColumn s).queue = s.queue ∧ (copyColumn s).recon = s.recon ∧ (copyColumn s).buffer = s.buffer ∧
    (copyColumn s).readout = s.readout ∧ (copyColumn s).control = s.control ∧ (copyColumn s).settings = s.settings ∧
    (copyColumn s).tracker = s.tracker ∧ (copyColumn s).injection = s.injection ∧ (copyColumn s).monitor = s.monitor ∧
    (copyColumn s).pending = s.pending := by
  dsimp only [copyColumn]; (repeat' split) <;> simp

@[simp] theorem discardWork_frame (s : State) :
    (discardWork s).timer = s.timer ∧ (discardWork s).trigger = s.trigger ∧ (discardWork s).inputs = s.inputs ∧
    (discardWork s).pipeline = s.pipeline ∧ (discardWork s).towers = s.towers ∧ (discardWork s).readout = s.readout ∧
    (discardWork s).control = s.control ∧ (discardWork s).settings = s.settings ∧ (discardWork s).tracker = s.tracker ∧
    (discardWork s).injection = s.injection ∧ (discardWork s).monitor = s.monitor ∧ (discardWork s).pending = s.pending := by
  dsimp only [discardWork]; simp

@[simp] theorem takeResync_frame (s : State) :
    (takeResync s).timer = s.timer ∧ (takeResync s).inputs = s.inputs ∧ (takeResync s).pipeline = s.pipeline ∧
    (takeResync s).towers = s.towers ∧ (takeResync s).readout = s.readout ∧ (takeResync s).control = s.control ∧
    (takeResync s).settings = s.settings ∧ (takeResync s).tracker = s.tracker ∧ (takeResync s).injection = s.injection ∧
    (takeResync s).monitor = s.monitor ∧ (takeResync s).pending = s.pending := by
  dsimp only [takeResync]; (repeat' split) <;> simp

@[simp] theorem takeLinkError_frame (s : State) :
    (takeLinkError s).timer = s.timer ∧ (takeLinkError s).inputs = s.inputs ∧ (takeLinkError s).pipeline = s.pipeline ∧
    (takeLinkError s).towers = s.towers ∧ (takeLinkError s).queue = s.queue ∧ (takeLinkError s).capture = s.capture ∧
    (takeLinkError s).windows = s.windows ∧ (takeLinkError s).recon = s.recon ∧ (takeLinkError s).buffer = s.buffer ∧
    (takeLinkError s).readout = s.readout ∧ (takeLinkError s).control = s.control ∧ (takeLinkError s).settings = s.settings ∧
    (takeLinkError s).tracker = s.tracker ∧ (takeLinkError s).injection = s.injection ∧ (takeLinkError s).pending = s.pending := by
  dsimp only [takeLinkError]; simp

@[simp] theorem startRun_frame (s : State) :
    (startRun s).timer = s.timer ∧ (startRun s).inputs = s.inputs ∧ (startRun s).pipeline = s.pipeline ∧
    (startRun s).towers = s.towers ∧ (startRun s).queue = s.queue ∧ (startRun s).capture = s.capture ∧
    (startRun s).windows = s.windows ∧ (startRun s).recon = s.recon ∧ (startRun s).buffer = s.buffer ∧
    (startRun s).readout = s.readout ∧ (startRun s).control = s.control ∧ (startRun s).settings = s.settings ∧
    (startRun s).tracker = s.tracker ∧ (startRun s).injection = s.injection ∧ (startRun s).monitor = s.monitor ∧
    (startRun s).pending = s.pending := by
  dsimp only [startRun]; (repeat' split) <;> simp

@[simp] theorem stopRun_frame (s : State) :
    (stopRun s).timer = s.timer ∧ (stopRun s).inputs = s.inputs ∧ (stopRun s).pipeline = s.pipeline ∧
    (stopRun s).towers = s.towers ∧ (stopRun s).queue = s.queue ∧ (stopRun s).capture = s.capture ∧
    (stopRun s).windows = s.windows ∧ (stopRun s).recon = s.recon ∧ (stopRun s).buffer = s.buffer ∧
    (stopRun s).readout = s.readout ∧ (stopRun s).control = s.control ∧ (stopRun s).settings = s.settings ∧
    (stopRun s).tracker = s.tracker ∧ (stopRun s).injection = s.injection ∧ (stopRun s).monitor = s.monitor ∧
    (stopRun s).pending = s.pending := by
  dsimp only [stopRun]; (repeat' split) <;> simp

@[simp] theorem sendWords_frame (s : State) :
    (sendWords s).timer = s.timer ∧ (sendWords s).run = s.run ∧ (sendWords s).trigger = s.trigger ∧
    (sendWords s).inputs = s.inputs ∧ (sendWords s).pipeline = s.pipeline ∧ (sendWords s).towers = s.towers ∧
    (sendWords s).queue = s.queue ∧ (sendWords s).capture = s.capture ∧ (sendWords s).windows = s.windows ∧
    (sendWords s).recon = s.recon ∧ (sendWords s).buffer = s.buffer ∧ (sendWords s).settings = s.settings ∧
    (sendWords s).tracker = s.tracker ∧ (sendWords s).injection = s.injection ∧ (sendWords s).monitor = s.monitor ∧
    (sendWords s).pending = s.pending := by
  dsimp only [sendWords]; simp

@[simp] theorem endResponse_frame (l : RequestLink) (s : State) :
    (endResponse l s).timer = s.timer ∧ (endResponse l s).run = s.run ∧ (endResponse l s).trigger = s.trigger ∧
    (endResponse l s).inputs = s.inputs ∧ (endResponse l s).pipeline = s.pipeline ∧ (endResponse l s).towers = s.towers ∧
    (endResponse l s).queue = s.queue ∧ (endResponse l s).capture = s.capture ∧ (endResponse l s).windows = s.windows ∧
    (endResponse l s).recon = s.recon ∧ (endResponse l s).buffer = s.buffer ∧ (endResponse l s).settings = s.settings ∧
    (endResponse l s).tracker = s.tracker ∧ (endResponse l s).injection = s.injection ∧ (endResponse l s).monitor = s.monitor ∧
    (endResponse l s).pending = s.pending := by
  dsimp only [endResponse]; (repeat' split) <;> simp

@[simp] theorem sampleCrossing_frame (pairs : Oct CodePair) (s : State) :
    (sampleCrossing pairs s).timer = s.timer ∧ (sampleCrossing pairs s).run = s.run ∧ (sampleCrossing pairs s).trigger = s.trigger ∧
    (sampleCrossing pairs s).queue = s.queue ∧ (sampleCrossing pairs s).capture = s.capture ∧ (sampleCrossing pairs s).windows = s.windows ∧
    (sampleCrossing pairs s).recon = s.recon ∧ (sampleCrossing pairs s).buffer = s.buffer ∧ (sampleCrossing pairs s).readout = s.readout ∧
    (sampleCrossing pairs s).control = s.control ∧ (sampleCrossing pairs s).settings = s.settings ∧ (sampleCrossing pairs s).injection = s.injection ∧
    (sampleCrossing pairs s).pending = s.pending := by
  dsimp only [sampleCrossing]; simp

@[simp] theorem processEvents_frame (s : State) :
    (processEvents s).run = s.run ∧ (processEvents s).trigger = s.trigger ∧ (processEvents s).inputs = s.inputs ∧
    (processEvents s).pipeline = s.pipeline ∧ (processEvents s).towers = s.towers ∧ (processEvents s).readout = s.readout ∧
    (processEvents s).control = s.control ∧ (processEvents s).settings = s.settings ∧ (processEvents s).tracker = s.tracker ∧
    (processEvents s).injection = s.injection ∧ (processEvents s).pending = s.pending := by
  dsimp only [processEvents]; simp

@[simp] theorem closeCrossing_frame (s : State) :
    (closeCrossing s).run = s.run ∧ (closeCrossing s).trigger = s.trigger ∧ (closeCrossing s).inputs = s.inputs ∧
    (closeCrossing s).pipeline = s.pipeline ∧ (closeCrossing s).towers = s.towers ∧ (closeCrossing s).queue = s.queue ∧
    (closeCrossing s).capture = s.capture ∧ (closeCrossing s).windows = s.windows ∧ (closeCrossing s).recon = s.recon ∧
    (closeCrossing s).buffer = s.buffer ∧ (closeCrossing s).readout = s.readout ∧ (closeCrossing s).control = s.control ∧
    (closeCrossing s).settings = s.settings ∧ (closeCrossing s).tracker = s.tracker ∧ (closeCrossing s).injection = s.injection ∧
    (closeCrossing s).monitor = s.monitor ∧ (closeCrossing s).pending = s.pending := by
  dsimp only [closeCrossing]; simp

@[simp] theorem freezePipeline_frame (s : State) :
    (freezePipeline s).timer = s.timer ∧ (freezePipeline s).run = s.run ∧ (freezePipeline s).trigger = s.trigger ∧
    (freezePipeline s).inputs = s.inputs ∧ (freezePipeline s).towers = s.towers ∧ (freezePipeline s).queue = s.queue ∧
    (freezePipeline s).capture = s.capture ∧ (freezePipeline s).windows = s.windows ∧ (freezePipeline s).recon = s.recon ∧
    (freezePipeline s).buffer = s.buffer ∧ (freezePipeline s).readout = s.readout ∧ (freezePipeline s).control = s.control ∧
    (freezePipeline s).settings = s.settings ∧ (freezePipeline s).tracker = s.tracker ∧ (freezePipeline s).injection = s.injection ∧
    (freezePipeline s).monitor = s.monitor ∧ (freezePipeline s).pending = s.pending := by
  dsimp only [freezePipeline]; (repeat' split) <;> simp

@[simp] theorem unfreezePipeline_frame (s : State) :
    (unfreezePipeline s).timer = s.timer ∧ (unfreezePipeline s).run = s.run ∧ (unfreezePipeline s).trigger = s.trigger ∧
    (unfreezePipeline s).inputs = s.inputs ∧ (unfreezePipeline s).queue = s.queue ∧ (unfreezePipeline s).capture = s.capture ∧
    (unfreezePipeline s).windows = s.windows ∧ (unfreezePipeline s).recon = s.recon ∧ (unfreezePipeline s).buffer = s.buffer ∧
    (unfreezePipeline s).readout = s.readout ∧ (unfreezePipeline s).control = s.control ∧ (unfreezePipeline s).settings = s.settings ∧
    (unfreezePipeline s).tracker = s.tracker ∧ (unfreezePipeline s).injection = s.injection ∧ (unfreezePipeline s).monitor = s.monitor ∧
    (unfreezePipeline s).pending = s.pending := by
  dsimp only [unfreezePipeline]; (repeat' split) <;> simp

@[simp] theorem writeCell_frame (a : Nat) (ch : Channel) (x : Cell) (s : State) :
    (writeCell a ch x s).timer = s.timer ∧ (writeCell a ch x s).run = s.run ∧ (writeCell a ch x s).trigger = s.trigger ∧
    (writeCell a ch x s).inputs = s.inputs ∧ (writeCell a ch x s).towers = s.towers ∧ (writeCell a ch x s).queue = s.queue ∧
    (writeCell a ch x s).capture = s.capture ∧ (writeCell a ch x s).windows = s.windows ∧ (writeCell a ch x s).recon = s.recon ∧
    (writeCell a ch x s).buffer = s.buffer ∧ (writeCell a ch x s).readout = s.readout ∧ (writeCell a ch x s).control = s.control ∧
    (writeCell a ch x s).settings = s.settings ∧ (writeCell a ch x s).tracker = s.tracker ∧ (writeCell a ch x s).injection = s.injection ∧
    (writeCell a ch x s).monitor = s.monitor ∧ (writeCell a ch x s).pending = s.pending := by
  dsimp only [writeCell]; simp

@[simp] theorem clearCauses_frame (x : BitVec 10) (s : State) :
    (clearCauses x s).timer = s.timer ∧ (clearCauses x s).run = s.run ∧ (clearCauses x s).trigger = s.trigger ∧
    (clearCauses x s).inputs = s.inputs ∧ (clearCauses x s).pipeline = s.pipeline ∧ (clearCauses x s).towers = s.towers ∧
    (clearCauses x s).queue = s.queue ∧ (clearCauses x s).capture = s.capture ∧ (clearCauses x s).windows = s.windows ∧
    (clearCauses x s).recon = s.recon ∧ (clearCauses x s).buffer = s.buffer ∧ (clearCauses x s).readout = s.readout ∧
    (clearCauses x s).control = s.control ∧ (clearCauses x s).settings = s.settings ∧ (clearCauses x s).tracker = s.tracker ∧
    (clearCauses x s).injection = s.injection ∧ (clearCauses x s).pending = s.pending := by
  dsimp only [clearCauses]; simp

@[simp] theorem setEnables_frame (x : BitVec 10) (s : State) :
    (setEnables x s).timer = s.timer ∧ (setEnables x s).run = s.run ∧ (setEnables x s).trigger = s.trigger ∧
    (setEnables x s).inputs = s.inputs ∧ (setEnables x s).pipeline = s.pipeline ∧ (setEnables x s).towers = s.towers ∧
    (setEnables x s).queue = s.queue ∧ (setEnables x s).capture = s.capture ∧ (setEnables x s).windows = s.windows ∧
    (setEnables x s).recon = s.recon ∧ (setEnables x s).buffer = s.buffer ∧ (setEnables x s).readout = s.readout ∧
    (setEnables x s).control = s.control ∧ (setEnables x s).settings = s.settings ∧ (setEnables x s).tracker = s.tracker ∧
    (setEnables x s).injection = s.injection ∧ (setEnables x s).pending = s.pending := by
  dsimp only [setEnables]; simp

@[simp] theorem clearCounts_frame (s : State) :
    (clearCounts s).timer = s.timer ∧ (clearCounts s).run = s.run ∧ (clearCounts s).trigger = s.trigger ∧
    (clearCounts s).inputs = s.inputs ∧ (clearCounts s).pipeline = s.pipeline ∧ (clearCounts s).towers = s.towers ∧
    (clearCounts s).queue = s.queue ∧ (clearCounts s).capture = s.capture ∧ (clearCounts s).windows = s.windows ∧
    (clearCounts s).recon = s.recon ∧ (clearCounts s).buffer = s.buffer ∧ (clearCounts s).readout = s.readout ∧
    (clearCounts s).control = s.control ∧ (clearCounts s).settings = s.settings ∧ (clearCounts s).tracker = s.tracker ∧
    (clearCounts s).injection = s.injection ∧ (clearCounts s).pending = s.pending := by
  dsimp only [clearCounts]; simp

end Sys2Proof.Machine
end

