-- ==== Sys2Proof/Laws/Groups.lean ====
section
/-! SUPPORT. Reading and writing the groups of eight and of four. -/

namespace Sys2Proof

variable {α β : Type}

@[simp] theorem Oct.get_all (a : α) (ch : Channel) : (Oct.all a).get ch = a := by
  fin_cases ch <;> rfl

@[simp] theorem Oct.get_ofFn (f : Channel → α) (ch : Channel) : (Oct.ofFn f).get ch = f ch := by
  fin_cases ch <;> rfl

@[simp] theorem Oct.get_map (o : Oct α) (f : α → β) (ch : Channel) : (o.map f).get ch = f (o.get ch) := by
  simp [Oct.map]

theorem Oct.get_set (o : Oct α) (c : Channel) (a : α) (ch : Channel) :
    (o.set c a).get ch = if ch = c then a else o.get ch := by
  simp [Oct.set]

@[simp] theorem Oct.get_set_same (o : Oct α) (c : Channel) (a : α) : (o.set c a).get c = a := by
  simp [Oct.get_set]

/-- Two groups with the same values are equal. -/
theorem Oct.ext_get {o p : Oct α} (h : ∀ ch, o.get ch = p.get ch) : o = p := by
  cases o; cases p
  have h0 := h 0; have h1 := h 1; have h2 := h 2; have h3 := h 3
  have h4 := h 4; have h5 := h 5; have h6 := h 6; have h7 := h 7
  simp only [Oct.get] at *
  simp_all

@[simp] theorem Quad.get_all (a : α) (t : Tower) : (Quad.all a).get t = a := by
  fin_cases t <;> rfl

@[simp] theorem Quad.get_ofFn (f : Tower → α) (t : Tower) : (Quad.ofFn f).get t = f t := by
  fin_cases t <;> rfl

/-- Every channel is in the list of channels. -/
theorem mem_channels (ch : Channel) : ch ∈ channels := by
  fin_cases ch <;> simp [channels]

end Sys2Proof
end

