-- ==== Sys2Proof/Laws/Memory.lean ====
section
/-! SUPPORT. The addressed stores: what a read gives after a write, and the canonical form kept by every write. -/

namespace Sys2Proof.Machine

variable {α : Type}

@[simp] theorem Memory.read_nil (d : Nat → α) (a : Nat) : Memory.read d [] a = d a := rfl

theorem Memory.read_cons (d : Nat → α) (b : Nat) (v : α) (m : List (Nat × α)) (a : Nat) :
    Memory.read d ((b, v) :: m) a = if a = b then v else Memory.read d m a := rfl

/-- An insert gives its own address the new value and leaves every other address alone. -/
theorem Memory.read_insert (d : Nat → α) (m : List (Nat × α)) (a : Nat) (v : α) (x : Nat) :
    Memory.read d (Memory.insert m a v) x = if x = a then v else Memory.read d m x := by
  induction m with
  | nil => simp [Memory.insert, Memory.read_cons]
  | cons e m ih =>
    obtain ⟨b, w⟩ := e
    simp only [Memory.insert]
    split
    · simp [Memory.read_cons]
    · split
      · subst_vars; by_cases h : x = b <;> simp [Memory.read_cons, h]
      · rw [Memory.read_cons, ih, Memory.read_cons]
        split <;> split <;> simp_all

/-- An erase leaves every other address alone. -/
theorem Memory.read_erase_of_ne (d : Nat → α) (m : List (Nat × α)) {a x : Nat} (h : x ≠ a) :
    Memory.read d (Memory.erase m a) x = Memory.read d m x := by
  induction m with
  | nil => rfl
  | cons e m ih =>
    obtain ⟨b, w⟩ := e
    simp only [Memory.erase]
    split
    · subst_vars; simp [Memory.read_cons, h]
    · rw [Memory.read_cons, ih, Memory.read_cons]

/-- A write leaves every other address alone. -/
theorem Memory.read_write_of_ne [DecidableEq α] (d : Nat → α) (m : List (Nat × α)) {a x : Nat} (v : α) (h : x ≠ a) :
    Memory.read d (Memory.write d m a v) x = Memory.read d m x := by
  unfold Memory.write
  split
  · exact Memory.read_erase_of_ne d m h
  · rw [Memory.read_insert, if_neg h]

/-! ### Rising addresses -/

theorem Memory.risingFrom_none_cons (a : Nat) (v : α) (m : List (Nat × α)) :
    Memory.risingFrom none ((a, v) :: m) = Memory.risingFrom (some a) m := by
  simp [Memory.risingFrom]

theorem Memory.risingFrom_some_cons (l a : Nat) (v : α) (m : List (Nat × α)) :
    Memory.risingFrom (some l) ((a, v) :: m) = (decide (l < a) && Memory.risingFrom (some a) m) := rfl

theorem Memory.risingFrom_none_of_some {l : Nat} {m : List (Nat × α)} (h : Memory.risingFrom (some l) m = true) :
    Memory.risingFrom none m = true := by
  cases m with
  | nil => rfl
  | cons e m =>
    obtain ⟨a, v⟩ := e
    rw [Memory.risingFrom_some_cons, Bool.and_eq_true] at h
    rw [Memory.risingFrom_none_cons]
    exact h.2

theorem Memory.risingFrom_mono {l k : Nat} (hkl : k ≤ l) {m : List (Nat × α)}
    (h : Memory.risingFrom (some l) m = true) : Memory.risingFrom (some k) m = true := by
  cases m with
  | nil => rfl
  | cons e m =>
    obtain ⟨a, v⟩ := e
    rw [Memory.risingFrom_some_cons, Bool.and_eq_true, decide_eq_true_eq] at h ⊢
    exact ⟨lt_of_le_of_lt hkl h.1, h.2⟩

/-- Above a bound, every address of a rising store lies above the bound. -/
theorem Memory.lt_of_risingFrom {l : Nat} {m : List (Nat × α)} (h : Memory.risingFrom (some l) m = true) :
    ∀ e ∈ m, l < e.1 := by
  induction m generalizing l with
  | nil => simp
  | cons e m ih =>
    obtain ⟨a, v⟩ := e
    rw [Memory.risingFrom_some_cons, Bool.and_eq_true, decide_eq_true_eq] at h
    intro x hx
    rcases List.mem_cons.mp hx with hx | hx
    · subst hx; exact h.1
    · exact lt_trans h.1 (ih h.2 x hx)

theorem Memory.risingFrom_insert {l a : Nat} {m : List (Nat × α)} (v : α) (hl : l < a)
    (h : Memory.risingFrom (some l) m = true) : Memory.risingFrom (some l) (Memory.insert m a v) = true := by
  induction m generalizing l with
  | nil => simp [Memory.insert, Memory.risingFrom, hl]
  | cons e m ih =>
    obtain ⟨b, w⟩ := e
    rw [Memory.risingFrom_some_cons, Bool.and_eq_true, decide_eq_true_eq] at h
    simp only [Memory.insert]
    split
    · next hab => simp [Memory.risingFrom_some_cons, hl, hab, h.2]
    · split
      · next hab => subst hab; simp [Memory.risingFrom_some_cons, hl, h.2]
      · next h1 h2 =>
        rw [Memory.risingFrom_some_cons, Bool.and_eq_true, decide_eq_true_eq]
        exact ⟨h.1, ih (by omega) h.2⟩

theorem Memory.risingFrom_insert_none {a : Nat} {m : List (Nat × α)} (v : α)
    (h : Memory.risingFrom none m = true) : Memory.risingFrom none (Memory.insert m a v) = true := by
  cases m with
  | nil => rfl
  | cons e m =>
    obtain ⟨b, w⟩ := e
    rw [Memory.risingFrom_none_cons] at h
    simp only [Memory.insert]
    split
    · next hab => simp [Memory.risingFrom_none_cons, Memory.risingFrom_some_cons, hab, h]
    · split
      · next hab => subst hab; simp [Memory.risingFrom_none_cons, h]
      · rw [Memory.risingFrom_none_cons]; exact Memory.risingFrom_insert v (by omega) h

theorem Memory.risingFrom_erase {l a : Nat} {m : List (Nat × α)} (h : Memory.risingFrom (some l) m = true) :
    Memory.risingFrom (some l) (Memory.erase m a) = true := by
  induction m generalizing l with
  | nil => rfl
  | cons e m ih =>
    obtain ⟨b, w⟩ := e
    rw [Memory.risingFrom_some_cons, Bool.and_eq_true, decide_eq_true_eq] at h
    simp only [Memory.erase]
    split
    · exact Memory.risingFrom_mono (le_of_lt h.1) h.2
    · rw [Memory.risingFrom_some_cons, Bool.and_eq_true, decide_eq_true_eq]; exact ⟨h.1, ih h.2⟩

theorem Memory.risingFrom_erase_none {a : Nat} {m : List (Nat × α)} (h : Memory.risingFrom none m = true) :
    Memory.risingFrom none (Memory.erase m a) = true := by
  cases m with
  | nil => rfl
  | cons e m =>
    obtain ⟨b, w⟩ := e
    rw [Memory.risingFrom_none_cons] at h
    simp only [Memory.erase]
    split
    · exact Memory.risingFrom_none_of_some h
    · rw [Memory.risingFrom_none_cons]; exact Memory.risingFrom_erase h

/-! ### Entries -/

theorem Memory.mem_insert {m : List (Nat × α)} {a : Nat} {v : α} {e : Nat × α} (h : e ∈ Memory.insert m a v) :
    e = (a, v) ∨ e ∈ m := by
  induction m with
  | nil => simpa [Memory.insert] using h
  | cons b m ih =>
    obtain ⟨b, w⟩ := b
    simp only [Memory.insert] at h
    split at h
    · simpa using h
    · split at h
      · rcases List.mem_cons.mp h with h | h
        · exact Or.inl h
        · exact Or.inr (List.mem_cons_of_mem _ h)
      · rcases List.mem_cons.mp h with h | h
        · exact Or.inr (by simp [h])
        · rcases ih h with h | h
          · exact Or.inl h
          · exact Or.inr (List.mem_cons_of_mem _ h)

theorem Memory.mem_erase {m : List (Nat × α)} {a : Nat} {e : Nat × α} (h : e ∈ Memory.erase m a) : e ∈ m := by
  induction m with
  | nil => simp [Memory.erase] at h
  | cons b m ih =>
    obtain ⟨b, w⟩ := b
    simp only [Memory.erase] at h
    split at h
    · exact List.mem_cons_of_mem _ h
    · rcases List.mem_cons.mp h with h | h
      · simp [h]
      · exact List.mem_cons_of_mem _ (ih h)

/-- An entry after a write is the one written or stood before. -/
theorem Memory.mem_write [DecidableEq α] {d : Nat → α} {m : List (Nat × α)} {a : Nat} {v : α} {e : Nat × α}
    (h : e ∈ Memory.write d m a v) : (e = (a, v) ∧ v ≠ d a) ∨ e ∈ m := by
  unfold Memory.write at h
  split at h
  · exact Or.inr (Memory.mem_erase h)
  · next hv =>
    rcases Memory.mem_insert h with h | h
    · exact Or.inl ⟨h, hv⟩
    · exact Or.inr h

/-! ### The canonical form -/

theorem Memory.wf_iff [DecidableEq α] (d : Nat → α) (m : List (Nat × α)) :
    Memory.wf d m = true ↔ Memory.risingFrom none m = true ∧ ∀ e ∈ m, e.2 ≠ d e.1 := by
  simp [Memory.wf]

@[simp] theorem Memory.wf_nil [DecidableEq α] (d : Nat → α) : Memory.wf d [] = true := rfl

/-- Every write keeps the canonical form. -/
theorem Memory.wf_write [DecidableEq α] {d : Nat → α} {m : List (Nat × α)} (a : Nat) (v : α)
    (h : Memory.wf d m = true) : Memory.wf d (Memory.write d m a v) = true := by
  rw [Memory.wf_iff] at h ⊢
  refine ⟨?_, ?_⟩
  · unfold Memory.write
    split
    · exact Memory.risingFrom_erase_none h.1
    · exact Memory.risingFrom_insert_none v h.1
  · intro e he
    rcases Memory.mem_write he with ⟨rfl, hv⟩ | he
    · exact hv
    · exact h.2 e he

/-- In a rising store an address below every entry reads as unlisted. -/
theorem Memory.read_of_risingFrom {d : Nat → α} {m : List (Nat × α)} {a : Nat}
    (h : Memory.risingFrom (some a) m = true) : Memory.read d m a = d a := by
  induction m with
  | nil => rfl
  | cons e m ih =>
    obtain ⟨b, w⟩ := e
    rw [Memory.risingFrom_some_cons, Bool.and_eq_true, decide_eq_true_eq] at h
    rw [Memory.read_cons, if_neg (by omega)]
    exact ih (Memory.risingFrom_mono (le_of_lt h.1) h.2)

theorem Memory.read_erase_self {d : Nat → α} {m : List (Nat × α)} {a : Nat}
    (h : Memory.risingFrom none m = true) : Memory.read d (Memory.erase m a) a = d a := by
  induction m with
  | nil => rfl
  | cons e m ih =>
    obtain ⟨b, w⟩ := e
    rw [Memory.risingFrom_none_cons] at h
    simp only [Memory.erase]
    split
    · next hab => subst hab; exact Memory.read_of_risingFrom h
    · next hab => rw [Memory.read_cons, if_neg hab]; exact ih (Memory.risingFrom_none_of_some h)

/-- A write to a canonical store gives its own address the new value and leaves every other address alone. -/
theorem Memory.read_write [DecidableEq α] {d : Nat → α} {m : List (Nat × α)} (a : Nat) (v : α)
    (h : Memory.wf d m = true) (x : Nat) :
    Memory.read d (Memory.write d m a v) x = if x = a then v else Memory.read d m x := by
  by_cases hx : x = a
  · subst hx
    rw [if_pos rfl]
    unfold Memory.write
    split
    · next hv => rw [Memory.read_erase_self ((Memory.wf_iff d m).mp h).1, hv]
    · rw [Memory.read_insert, if_pos rfl]
  · rw [if_neg hx, Memory.read_write_of_ne d m v hx]

/-- A value other than the unlisted one is read back after it is written, in any store. -/
theorem Memory.read_write_self [DecidableEq α] {d : Nat → α} (m : List (Nat × α)) {a : Nat} {v : α} (hv : v ≠ d a) :
    Memory.read d (Memory.write d m a v) a = v := by
  unfold Memory.write
  rw [if_neg hv, Memory.read_insert, if_pos rfl]

/-- Two canonical stores that read alike are equal. -/
theorem Memory.ext_of_wf [DecidableEq α] {d : Nat → α} {m n : List (Nat × α)} (hm : Memory.wf d m = true)
    (hn : Memory.wf d n = true) (h : ∀ a, Memory.read d m a = Memory.read d n a) : m = n := by
  rw [Memory.wf_iff] at hm hn
  obtain ⟨hm1, hm2⟩ := hm
  obtain ⟨hn1, hn2⟩ := hn
  induction m generalizing n with
  | nil =>
    cases n with
    | nil => rfl
    | cons e n =>
      obtain ⟨b, w⟩ := e
      exact absurd (by simpa [Memory.read_cons] using (h b).symm) (hn2 (b, w) (by simp))
  | cons e m ih =>
    obtain ⟨a, v⟩ := e
    rw [Memory.risingFrom_none_cons] at hm1
    cases n with
    | nil => exact absurd (by simpa [Memory.read_cons] using h a) (hm2 (a, v) (by simp))
    | cons e n =>
      obtain ⟨b, w⟩ := e
      rw [Memory.risingFrom_none_cons] at hn1
      have hab : a = b := by
        rcases lt_trichotomy a b with hlt | heq | hgt
        · have hr := h a
          rw [Memory.read_cons, if_pos rfl, Memory.read_cons, if_neg (by omega),
            Memory.read_of_risingFrom (Memory.risingFrom_mono (le_of_lt hlt) hn1)] at hr
          exact absurd hr (hm2 (a, v) (by simp))
        · exact heq
        · have hr := h b
          rw [Memory.read_cons, if_neg (by omega), Memory.read_of_risingFrom (Memory.risingFrom_mono (le_of_lt hgt) hm1),
            Memory.read_cons, if_pos rfl] at hr
          exact absurd hr.symm (hn2 (b, w) (by simp))
      subst hab
      have hvw : v = w := by simpa [Memory.read_cons] using h a
      subst hvw
      have hmn : m = n := by
        refine ih ?_ (Memory.risingFrom_none_of_some hm1) (fun e he => hm2 e (by simp [he]))
          (Memory.risingFrom_none_of_some hn1) (fun e he => hn2 e (by simp [he]))
        intro x
        by_cases hx : x = a
        · subst hx; rw [Memory.read_of_risingFrom hm1, Memory.read_of_risingFrom hn1]
        · simpa [Memory.read_cons, hx] using h x
      rw [hmn]

end Sys2Proof.Machine
end

