-- ==== Sys2Proof/Laws/Ops.lean ====
section
/-! SUPPORT. What the shared operations do to the fields they change. -/

namespace Sys2Proof.Machine

/-! ### Counts and reports -/

theorem satInc_le {limit n : Nat} (h : n ≤ limit) : satInc limit n ≤ limit := by
  unfold satInc; split <;> omega

theorem satAdd_le (limit n k : Nat) : satAdd limit n k ≤ limit := by
  unfold satAdd; omega

@[simp] theorem report_monitor (c : Cause) (s : State) : (report c s).monitor = s.monitor.occurrence c := rfl

@[simp] theorem reportIf_true (c : Cause) (s : State) : reportIf true c s = report c s := rfl

@[simp] theorem reportIf_false (c : Cause) (s : State) : reportIf false c s = s := rfl

/-- An occurrence raises the count of its own cause, saturating, and no other (R181). -/
theorem CauseCounts.get_bump (k : CauseCounts) (c d : Cause) :
    (k.bump c).get d = if d = c then satInc Config.countLimit (k.get d) else k.get d := by
  cases c <;> cases d <;> rfl

/-- An occurrence sets the flag of its own cause and no other (R181). -/
theorem Monitor.occurrence_flag (m : Monitor) (c d : Cause) :
    (m.occurrence c).flags.getLsbD d.bit = (m.flags.getLsbD d.bit || decide (d = c)) := by
  cases c <;> cases d <;> simp [Monitor.occurrence, Cause.mask, Cause.bit]

@[simp] theorem Monitor.occurrence_enables (m : Monitor) (c : Cause) : (m.occurrence c).enables = m.enables := rfl

@[simp] theorem Monitor.occurrence_counts (m : Monitor) (c : Cause) : (m.occurrence c).counts = m.counts.bump c := rfl

/-! ### Run state -/

@[simp] theorem changeRunState_run (r : RunState) (s : State) :
    (changeRunState r s).run = { s.run with state := r } := by
  dsimp only [changeRunState]; split <;> simp

theorem changeRunState_trigger (r : RunState) (s : State) :
    (changeRunState r s).trigger = if r = .run then s.trigger else { s.trigger with throttle := .off } := by
  dsimp only [changeRunState]; split <;> simp [*]

theorem loseRun_run (s : State) :
    (loseRun s).run = if s.run.state = .run then { s.run with state := .lost } else s.run := by
  unfold loseRun; split <;> simp

theorem loseRun_trigger (s : State) :
    (loseRun s).trigger = if s.run.state = .run then { s.trigger with throttle := .off } else s.trigger := by
  unfold loseRun; split <;> simp [changeRunState_trigger]

@[simp] theorem beginRun_run (s : State) :
    (beginRun s).run = { s.run with state := .run, epoch := s.run.epoch + 1 } := rfl

@[simp] theorem beginRun_queue (s : State) : (beginRun s).queue = { s.queue with eventCounter := 0 } := rfl

@[simp] theorem beginRun_trigger (s : State) : (beginRun s).trigger = { s.trigger with throttle := .off } := rfl

theorem drain_run (s : State) :
    (drain s).run = if s.run.state = .stopping ∧ chainEmpty s = true then { s.run with state := .idle } else s.run := by
  unfold drain; split <;> simp

theorem drain_trigger (s : State) :
    (drain s).trigger
      = if s.run.state = .stopping ∧ chainEmpty s = true then { s.trigger with throttle := .off } else s.trigger := by
  unfold drain; split <;> simp [changeRunState_trigger]

/-! ### Reads of the pipeline -/

/-- A column read depends on the pipeline and the current index alone (R12). -/
theorem readColumn_congr {s t : State} (hp : t.pipeline = s.pipeline) (ht : t.timer.position = s.timer.position)
    (x : Int) : readColumn t x = readColumn s x := by
  unfold readColumn referenceIndex currentIndex
  rw [hp, ht]

/-- The Payload Store after words are placed keeps its canonical form. -/
theorem placeWords_wf {m : List (Nat × Word)} (h : Memory.wf (fun _ => (0 : Word)) m = true) (i : Nat)
    (ws : List Word) : Memory.wf (fun _ => (0 : Word)) (placeWords m i ws) = true := by
  induction ws generalizing m i with
  | nil => exact h
  | cons w ws ih => exact ih (Memory.wf_write _ _ h) _

/-- A setting set keeps its canonical form when a value is stored. -/
theorem setItemValue_wf {m : List (Nat × Int)} (h : Memory.wf catalogueDefault m = true) (a : Nat) (v : Int) :
    Memory.wf catalogueDefault (setItemValue m a v) = true :=
  Memory.wf_write _ _ h

/-- A value stored is read back, and every other value stays (R158). -/
theorem itemValue_setItemValue {m : List (Nat × Int)} (h : Memory.wf catalogueDefault m = true) (a : Nat) (v : Int)
    (x : Nat) : itemValue (setItemValue m a v) x = if x = a then v else itemValue m x :=
  Memory.read_write _ _ h x

/-- Storing one value leaves every other value alone, in any setting set. -/
theorem itemValue_setItemValue_of_ne (m : List (Nat × Int)) {a x : Nat} (v : Int) (h : x ≠ a) :
    itemValue (setItemValue m a v) x = itemValue m x :=
  Memory.read_write_of_ne _ _ _ h

/-! ### Opening and entering a crossing -/

theorem isForming_iff (s : State) : isForming s = true ↔ ∃ f, s.timer.forming = some f := by
  unfold isForming; exact Option.isSome_iff_exists

@[simp] theorem openCrossing_of_forming {s : State} (h : isForming s = true) : openCrossing s = s := by
  unfold openCrossing; rw [if_pos h]

theorem openCrossing_timer_of_not_forming {s : State} (h : isForming s = false) :
    (openCrossing s).timer = { s.timer with position := some (nextPosition s.timer.position), forming := some Forming.fresh } := by
  unfold openCrossing; rw [if_neg (by simp [h])]; simp

theorem formNumber_of_formed {s : State} {p : Position} {f : Forming} (hp : s.timer.position = some p)
    (hf : s.timer.forming = some f) (h : f.numberFormed = true) : formNumber s = s := by
  unfold formNumber; rw [hp, hf]; simp [h]

theorem takeBoundary_of_not_due {s : State} (h : boundaryDue s = false) : takeBoundary s = s := by
  unfold takeBoundary
  split
  · next hp hf => simp [boundaryDue, hf] at h; simp [h]
  · rfl

/-- A crossing that has been entered is left as it is. -/
theorem enterCrossing_of_entered {s : State} {p : Position} {f : Forming} (hp : s.timer.position = some p)
    (hf : s.timer.forming = some f) (hn : f.numberFormed = true) (hb : f.boundaryDue = false) : enterCrossing s = s := by
  unfold enterCrossing
  rw [openCrossing_of_forming (by simp [isForming, hf]), formNumber_of_formed hp hf hn,
    takeBoundary_of_not_due (by simp [boundaryDue, hf, hb])]

/-! ### The look of the Reconstruction Engine -/

/-- A look is to be made where the engine is Idle and has made none at this crossing start (R91). -/
theorem looksForEvent_iff (s : State) : looksForEvent s = true ↔ s.recon = none ∧ reconstructionLooked s = false := by
  simp [looksForEvent]

@[simp] theorem beginReconstruction_of_not_looks {s : State} (h : looksForEvent s = false) : beginReconstruction s = s := by
  unfold beginReconstruction; simp [h]

/-- A look that is made is marked, whether or not it leads to a begin (R91; log 29). -/
theorem beginReconstruction_of_looks {s : State} (h : looksForEvent s = true) :
    beginReconstruction s
      = markLook (match reconstructionCandidate s with
         | none => s
         | some w => beginEvent w s) := by
  unfold beginReconstruction; cases reconstructionCandidate s <;> simp [h]

@[simp] theorem advanceReconstruction_of_looked {s : State} (h : reconstructionLooked s = true) :
    advanceReconstruction s = s := by
  unfold advanceReconstruction; split
  · rfl
  · rw [if_pos h]

/-! ### Request ports -/

/-- A control request at an Idle port is executed and answered, after what is due (R169; log 11). -/
theorem controlRequest_of_idle {s : State} (h : s.control.response = none) (code : Nat)
    (execute : State → State × Reply) :
    controlRequest code execute s
      = (execute (settleRequest s)).1.setControl
          ((execute (settleRequest s)).1.control.respond (isForming (execute (settleRequest s)).1)
            (.words ((execute (settleRequest s)).2.words code))) := by
  unfold controlRequest; simp [h]

/-- A control request at a Responding port is refused and counted (R169). -/
theorem controlRequest_of_responding {s : State} (h : s.control.response.isSome = true) (code : Nat)
    (execute : State → State × Reply) :
    controlRequest code execute s = report .requestOverrun (s.setControl (s.control.overrunBy code)) := by
  unfold controlRequest; rw [if_pos h]

/-- A readout request at an Idle port is executed and answered, after what is due (R137; log 11). -/
theorem readoutRequest_of_idle {s : State} (h : s.readout.response = none) (code : Nat)
    (execute : State → State × Response) :
    readoutRequest code execute s
      = (execute (settleRequest s)).1.setReadout
          ((execute (settleRequest s)).1.readout.respond (isForming (execute (settleRequest s)).1)
            (execute (settleRequest s)).2) := by
  unfold readoutRequest; simp [h]

/-- A readout request at a Responding port is refused and counted (R138). -/
theorem readoutRequest_of_responding {s : State} (h : s.readout.response.isSome = true) (code : Nat)
    (execute : State → State × Response) :
    readoutRequest code execute s = report .requestOverrun (s.setReadout (s.readout.overrunBy code)) := by
  unfold readoutRequest; rw [if_pos h]

/-! ### Steps -/

@[simp] theorem step_nil {s : State} (h : s.pending = []) : step s = .next s := by
  unfold step; rw [h]

theorem step_cons {s : State} {c : Instr} {rest : List Instr} (h : s.pending = c :: rest) :
    step s = exec c (s.setPending rest) := by
  unfold step; rw [h]

end Sys2Proof.Machine
end

