-- ==== Sys2Proof/Laws/Due.lean ====
section
/-! SUPPORT. What the last updates leave due (log 11): where nothing is due, settling changes nothing. -/

namespace Sys2Proof.Machine

/-- A fold of updates that each leave `s` as it is leaves `s` as it is. -/
theorem foldl_same {β : Type} (f : State → β → State) {s : State} (l : List β) (h : ∀ b ∈ l, f s b = s) :
    l.foldl f s = s := by
  induction l with
  | nil => rfl
  | cons b l ih =>
    rw [List.foldl_cons, h b List.mem_cons_self]
    exact ih fun c hc => h c (List.mem_cons_of_mem _ hc)

theorem killChannel_of_not_due {ch : Channel} {s : State} (h : (s.inputs.channels.get ch).killDue = false) :
    killChannel ch s = s := by
  unfold killChannel; simp [h]

theorem formCandidate_of_not_due {ch : Channel} {g : Gain} {s : State} (h : (accumulator s ch g).due = none) :
    formCandidate ch g s = s := by
  unfold formCandidate; simp [h]

theorem stepScan_of_not_due {s : State} (h : s.injection.scan.stepIsDue = false) : stepScan s = s := by
  unfold stepScan
  split
  · next hs => simp [hs, Scan.stepIsDue] at h
  · rfl

theorem chainEmpty_iff (s : State) : chainEmpty s = true ↔ ChainEmpty s := by
  simp [chainEmpty, ChainEmpty, and_assoc]

theorem drain_of_not {s : State} (h : ¬ (s.run.state = .stopping ∧ ChainEmpty s)) : drain s = s := by
  unfold drain; rw [if_neg (by rwa [chainEmpty_iff])]

/-- Where no kill, candidate or scan step is due, none is made. -/
theorem makeDue_of_not_due {s : State} (hk : ∀ ch : Channel, (s.inputs.channels.get ch).killDue = false)
    (hc : ∀ ch : Channel, (s.tracker.get ch).hg.due = none ∧ (s.tracker.get ch).lg.due = none)
    (hs : s.injection.scan.stepIsDue = false) : makeDue s = s := by
  have h1 : killChannels s = s := foldl_same _ _ fun ch _ => killChannel_of_not_due (hk ch)
  have h2 : formCandidates s = s := foldl_same _ _ fun p _ => formCandidate_of_not_due (by
    cases p with
    | mk ch g => cases g <;> simp [accumulator, TrackerChannel.get, hc ch])
  unfold makeDue; rw [h1, h2, stepScan_of_not_due hs]

/-- Where nothing is due, a request is executed on the state as it stands (log 11). -/
@[simp] theorem settleRequest_of_nothingDue {s : State} (h : NothingDue s) : settleRequest s = s := by
  unfold settleRequest
  rw [makeDue_of_not_due h.1 h.2.1 h.2.2.1, drain_of_not h.2.2.2]

end Sys2Proof.Machine
end

