-- ==== Sys2Proof/Laws/PerInstr.lean ====
section
/-! SUPPORT. What holds of every command as syntax, constructor by constructor: the words a link carries it in are read back as
the command. -/

namespace Sys2Proof

/-! ### The fields of the request words -/

theorem controlWord_code (code : BitVec 5) (a : BitVec 11) (b : BitVec 16) :
    (controlWord code a b).extractLsb' 27 5 = code := by
  apply BitVec.eq_of_getLsbD_eq
  intro i hi
  simp only [controlWord, BitVec.getLsbD_extractLsb', BitVec.getLsbD_append]
  rw [if_neg (by omega), show 27 + i - (11 + 16) = i by omega]
  simp [hi]

theorem controlWord_a (code : BitVec 5) (a : BitVec 11) (b : BitVec 16) :
    (controlWord code a b).extractLsb' 16 11 = a := by
  apply BitVec.eq_of_getLsbD_eq
  intro i hi
  simp only [controlWord, BitVec.getLsbD_extractLsb', BitVec.getLsbD_append]
  rw [if_pos (by omega), if_neg (by omega), show 16 + i - 16 = i by omega]
  simp [hi]

theorem controlWord_b (code : BitVec 5) (a : BitVec 11) (b : BitVec 16) :
    (controlWord code a b).extractLsb' 0 16 = b := by
  apply BitVec.eq_of_getLsbD_eq
  intro i hi
  simp only [controlWord, BitVec.getLsbD_extractLsb', BitVec.getLsbD_append]
  rw [if_pos (by omega), if_pos (by omega)]
  simp [hi]

theorem readoutWord_code (code epoch : BitVec 4) (event : BitVec 24) :
    (readoutWord code epoch event).extractLsb' 28 4 = code := by
  apply BitVec.eq_of_getLsbD_eq
  intro i hi
  simp only [readoutWord, BitVec.getLsbD_extractLsb', BitVec.getLsbD_append]
  rw [if_neg (by omega), show 28 + i - (4 + 24) = i by omega]
  simp [hi]

theorem readoutWord_epoch (code epoch : BitVec 4) (event : BitVec 24) :
    (readoutWord code epoch event).extractLsb' 24 4 = epoch := by
  apply BitVec.eq_of_getLsbD_eq
  intro i hi
  simp only [readoutWord, BitVec.getLsbD_extractLsb', BitVec.getLsbD_append]
  rw [if_pos (by omega), if_neg (by omega), show 24 + i - 24 = i by omega]
  simp [hi]

theorem readoutWord_event (code epoch : BitVec 4) (event : BitVec 24) :
    (readoutWord code epoch event).extractLsb' 0 24 = event := by
  apply BitVec.eq_of_getLsbD_eq
  intro i hi
  simp only [readoutWord, BitVec.getLsbD_extractLsb', BitVec.getLsbD_append]
  rw [if_pos (by omega), if_pos (by omega)]
  simp [hi]

theorem readItemArgument_index (index : BitVec 3) (wantsPending : Bool) :
    (readItemArgument index wantsPending).extractLsb' 0 3 = index := by
  revert index wantsPending; decide

theorem readItemArgument_pending (index : BitVec 3) (wantsPending : Bool) :
    (readItemArgument index wantsPending)[15] = wantsPending := by
  revert index wantsPending; decide

/-! ### The family Encoding -/

namespace Laws.Encoding

/-- Every frame, readout request word and control request that a well-formed command is written as is read back as the command,
with the value word exactly where its code has one (R145, R148, R151, R152). -/
def Statement (i : Instr) : Prop :=
  i.wellFormed = true →
    (∀ f, encodeFrame i = some f → decodeFrame f = i) ∧
    (∀ w, encodeReadoutRequest i = some w → decodeReadoutRequest w = i) ∧
    (∀ w v, encodeControlRequest i = some (w, v) →
      hasValueWord (w.extractLsb' 27 5) = v.isSome ∧ decodeControlRequest w (v.getD 0) = i)

/-- A command that no link carries as words. -/
theorem of_event {i : Instr} (hf : encodeFrame i = none) (hr : encodeReadoutRequest i = none)
    (hc : encodeControlRequest i = none) : Statement i := by
  intro _
  exact ⟨fun f h => (by rw [hf] at h; cases h), fun w h => (by rw [hr] at h; cases h), fun w v h => (by rw [hc] at h; cases h)⟩

/-- A command that only the downlink carries. -/
theorem of_frame {i : Instr} (hf : ∀ f, i.wellFormed = true → encodeFrame i = some f → decodeFrame f = i)
    (hr : encodeReadoutRequest i = none) (hc : encodeControlRequest i = none) : Statement i := by
  intro hw
  exact ⟨fun f h => hf f hw h, fun w h => (by rw [hr] at h; cases h), fun w v h => (by rw [hc] at h; cases h)⟩

/-- A command that only the readout link carries. -/
theorem of_readout {i : Instr} (hf : encodeFrame i = none)
    (hr : ∀ w, i.wellFormed = true → encodeReadoutRequest i = some w → decodeReadoutRequest w = i)
    (hc : encodeControlRequest i = none) : Statement i := by
  intro hw
  exact ⟨fun f h => (by rw [hf] at h; cases h), fun w h => hr w hw h, fun w v h => (by rw [hc] at h; cases h)⟩

/-- A command that only the control link carries, in the words `w` and `v`. -/
theorem of_control {i : Instr} {w : Word} {v : Option Word} (hf : encodeFrame i = none)
    (hr : encodeReadoutRequest i = none) (hc : encodeControlRequest i = some (w, v))
    (hd : i.wellFormed = true → hasValueWord (w.extractLsb' 27 5) = v.isSome ∧ decodeControlRequest w (v.getD 0) = i) :
    Statement i := by
  intro hw
  refine ⟨fun f h => (by rw [hf] at h; cases h), fun w h => (by rw [hr] at h; cases h), fun x y h => ?_⟩
  rw [hc] at h
  cases h
  exact hd hw

theorem powerOnReset : Statement .powerOnReset :=
  of_event rfl rfl rfl

theorem crossingStart (pairs : Oct CodePair) : Statement (.crossingStart pairs) :=
  of_event rfl rfl rfl

theorem turnBoundary : Statement .turnBoundary :=
  of_event rfl rfl rfl

theorem noneCommand : Statement .noneCommand :=
  of_frame (fun f _ h => by cases h; rfl) rfl rfl

theorem accept : Statement .accept :=
  of_frame (fun f _ h => by cases h; rfl) rfl rfl

theorem turnMarker : Statement .turnMarker :=
  of_frame (fun f _ h => by cases h; rfl) rfl rfl

theorem testFire : Statement .testFire :=
  of_frame (fun f _ h => by cases h; rfl) rfl rfl

theorem resync : Statement .resync :=
  of_frame (fun f _ h => by cases h; rfl) rfl rfl

theorem linkError (frame : BitVec 4) : Statement (.linkError frame) :=
  of_frame
    (fun f hw h => by
      cases h
      simp only [Instr.wellFormed, Bool.not_eq_true'] at hw
      simp [decodeFrame, hw])
    rfl rfl

theorem autoKill (ch : Channel) : Statement (.autoKill ch) :=
  of_event rfl rfl rfl

theorem pedestalCandidate (ch : Channel) (gain : Gain) : Statement (.pedestalCandidate ch gain) :=
  of_event rfl rfl rfl

theorem injectionRecordAgeOut : Statement .injectionRecordAgeOut :=
  of_event rfl rfl rfl

theorem scanStep : Statement .scanStep :=
  of_event rfl rfl rfl

theorem captureBegin : Statement .captureBegin :=
  of_event rfl rfl rfl

theorem captureComplete : Statement .captureComplete :=
  of_event rfl rfl rfl

theorem reconstructionBegin : Statement .reconstructionBegin :=
  of_event rfl rfl rfl

theorem reconstructionComplete : Statement .reconstructionComplete :=
  of_event rfl rfl rfl

theorem drainComplete : Statement .drainComplete :=
  of_event rfl rfl rfl

theorem responseEnd (link : RequestLink) : Statement (.responseEnd link) :=
  of_event rfl rfl rfl

theorem fetch : Statement .fetch :=
  of_readout rfl (fun w _ h => by cases h; rfl) rfl

theorem release (epoch : BitVec 4) (event : BitVec 24) : Statement (.release epoch event) :=
  of_readout rfl
    (fun w _ h => by
      cases h
      simp [decodeReadoutRequest, readoutWord_code, readoutWord_epoch, readoutWord_event])
    rfl

theorem status : Statement .status :=
  of_readout rfl (fun w _ h => by cases h; rfl) rfl

theorem readoutUnassigned (code : BitVec 4) : Statement (.readoutUnassigned code) :=
  of_readout rfl
    (fun w hw h => by
      cases h
      have hu : code.toNat = 0 ∨ 3 < code.toNat := by
        simp [Instr.wellFormed, readoutCodeAssigned] at hw; omega
      unfold decodeReadoutRequest
      rw [readoutWord_code]
      split <;> first | rfl | omega)
    rfl

theorem writeItem (item : BitVec 11) (index : BitVec 16) (value : Word) : Statement (.writeItem item index value) :=
  of_control rfl rfl rfl fun _ => by
    simp [decodeControlRequest, controlWord_code, controlWord_a, controlWord_b, hasValueWord]

theorem readItem (item : BitVec 11) (index : BitVec 3) (wantsPending : Bool) : Statement (.readItem item index wantsPending) :=
  of_control rfl rfl rfl fun _ => by
    simp [decodeControlRequest, controlWord_code, controlWord_a, controlWord_b, hasValueWord, readItemArgument_index, readItemArgument_pending]

theorem take : Statement .take :=
  of_control rfl rfl rfl fun _ => ⟨rfl, rfl⟩

theorem cancelTake : Statement .cancelTake :=
  of_control rfl rfl rfl fun _ => ⟨rfl, rfl⟩

theorem readTakeState : Statement .readTakeState :=
  of_control rfl rfl rfl fun _ => ⟨rfl, rfl⟩

theorem start : Statement .start :=
  of_control rfl rfl rfl fun _ => ⟨rfl, rfl⟩

theorem stop : Statement .stop :=
  of_control rfl rfl rfl fun _ => ⟨rfl, rfl⟩

theorem restart : Statement .restart :=
  of_control rfl rfl rfl fun _ => ⟨rfl, rfl⟩

theorem revive (channel : BitVec 16) : Statement (.revive channel) :=
  of_control rfl rfl rfl fun _ => by
    simp [decodeControlRequest, controlWord_code, controlWord_b, hasValueWord]

theorem readFaults : Statement .readFaults :=
  of_control rfl rfl rfl fun _ => ⟨rfl, rfl⟩

theorem clearCauses (causes : BitVec 16) : Statement (.clearCauses causes) :=
  of_control rfl rfl rfl fun _ => by
    simp [decodeControlRequest, controlWord_code, controlWord_b, hasValueWord]

theorem setEnables (causes : BitVec 16) : Statement (.setEnables causes) :=
  of_control rfl rfl rfl fun _ => by
    simp [decodeControlRequest, controlWord_code, controlWord_b, hasValueWord]

theorem clearCounts : Statement .clearCounts :=
  of_control rfl rfl rfl fun _ => ⟨rfl, rfl⟩

theorem scanStart : Statement .scanStart :=
  of_control rfl rfl rfl fun _ => ⟨rfl, rfl⟩

theorem scanStop : Statement .scanStop :=
  of_control rfl rfl rfl fun _ => ⟨rfl, rfl⟩

theorem freeze : Statement .freeze :=
  of_control rfl rfl rfl fun _ => ⟨rfl, rfl⟩

theorem unfreeze : Statement .unfreeze :=
  of_control rfl rfl rfl fun _ => ⟨rfl, rfl⟩

theorem peekInput (channel : BitVec 16) : Statement (.peekInput channel) :=
  of_control rfl rfl rfl fun _ => by
    simp [decodeControlRequest, controlWord_code, controlWord_b, hasValueWord]

theorem readCell (age : BitVec 11) (channel : BitVec 16) : Statement (.readCell age channel) :=
  of_control rfl rfl rfl fun _ => by
    simp [decodeControlRequest, controlWord_code, controlWord_a, controlWord_b, hasValueWord]

theorem writeCell (age : BitVec 11) (channel : BitVec 16) (cell : Word) : Statement (.writeCell age channel cell) :=
  of_control rfl rfl rfl fun _ => by
    simp [decodeControlRequest, controlWord_code, controlWord_a, controlWord_b, hasValueWord]

theorem readColumn (age : BitVec 11) : Statement (.readColumn age) :=
  of_control rfl rfl rfl fun _ => by
    simp [decodeControlRequest, controlWord_code, controlWord_a, hasValueWord]

theorem readWindowSlot (slot : BitVec 11) : Statement (.readWindowSlot slot) :=
  of_control rfl rfl rfl fun _ => by
    simp [decodeControlRequest, controlWord_code, controlWord_a, hasValueWord]

theorem readDescriptor (index : BitVec 11) : Statement (.readDescriptor index) :=
  of_control rfl rfl rfl fun _ => by
    simp [decodeControlRequest, controlWord_code, controlWord_a, hasValueWord]

theorem readPayload (word : BitVec 16) : Statement (.readPayload word) :=
  of_control rfl rfl rfl fun _ => by
    simp [decodeControlRequest, controlWord_code, controlWord_b, hasValueWord]

theorem readTracker (channel : BitVec 16) : Statement (.readTracker channel) :=
  of_control rfl rfl rfl fun _ => by
    simp [decodeControlRequest, controlWord_code, controlWord_b, hasValueWord]

theorem diagnosticAccept (age : BitVec 11) : Statement (.diagnosticAccept age) :=
  of_control rfl rfl rfl fun _ => by
    simp [decodeControlRequest, controlWord_code, controlWord_a, hasValueWord]

theorem controlUnassigned (code : BitVec 5) : Statement (.controlUnassigned code) :=
  of_control rfl rfl rfl fun hw => by
    have hu : code.toNat = 0 ∨ 27 ≤ code.toNat := by
      simp [Instr.wellFormed, controlCodeAssigned] at hw; omega
    refine ⟨?_, ?_⟩
    · rw [controlWord_code]
      revert hu; revert code; decide
    · unfold decodeControlRequest
      rw [controlWord_code]
      dsimp only
      split <;> first | rfl | omega

end Laws.Encoding

end Sys2Proof
end

