-- ==== Sys2Proof/Laws/Settings.lean ====
section
/-! SUPPORT. The set a take would produce, value by value, and the Take check against the seven conditions written out. -/

namespace Sys2Proof.Machine

/-- Values put in place one after the other: each address holds its new value, every other the old one. -/
theorem itemValue_foldl (v : Nat → Int) (l : List Nat) {m : List (Nat × Int)} (h : Memory.wf catalogueDefault m = true)
    (x : Nat) :
    itemValue (l.foldl (fun m a => setItemValue m a (v a)) m) x = if x ∈ l then v x else itemValue m x := by
  induction l generalizing m with
  | nil => simp
  | cons a l ih =>
    rw [List.foldl_cons, ih (setItemValue_wf h a (v a)), itemValue_setItemValue h]
    by_cases hl : x ∈ l
    · simp [hl]
    · by_cases ha : x = a <;> simp [hl, ha]

/-- The set a take would produce: the pending value of every touched item, the active value of every other (R161). -/
theorem itemValue_producedSet {x : Settings} (h : Memory.wf catalogueDefault x.active = true) (a : Nat) :
    itemValue (producedSet x) a
      = if ∃ item ∈ x.touched, a ∈ itemAddresses item then itemValue x.pending a else itemValue x.active a := by
  unfold producedSet
  rw [itemValue_foldl _ _ h]
  simp only [List.mem_flatMap]

/-- The Take check passes exactly the sets that satisfy the seven conditions (R161, R162). -/
theorem firstFailing_eq_none_iff (m : List (Nat × Int)) : firstFailing m = none ↔ Consistent (itemValue m) := by
  have h : firstFailing m = none ↔ ∀ b ∈ consistencyConditions m, b = true := by
    simp [firstFailing, List.findIdx?_eq_none_iff]
  rw [h]
  simp [consistencyConditions, Consistent, windowSpan, globalValue, valueAddress, windowAddress, and_assoc]

end Sys2Proof.Machine
end

