-- ==== Sys2Proof/Tests/Slice0.lean ====
section
/-! SUPPORT. Tests: the well-formedness smoke, words written out from the link layouts, the spec's worked examples, and for every
statement with hypotheses a state and operands that meet them. -/

namespace Sys2Proof.Tests

open Sys2Proof.Machine

set_option Elab.async false

/-! ### Small states -/

/-- A healthy code pair. -/
def pair (hg lg : Nat) : CodePair := ⟨BitVec.ofNat 12 hg, false, BitVec.ofNat 12 lg, false⟩

/-- Quiet code pairs on every channel. -/
def quiet : Oct CodePair := Oct.all (pair 200 205)

/-- A crossing whose number is formed and whose boundary, if any, is taken. -/
def formed : Forming := { Forming.fresh with numberFormed := true }

/-- Run, epoch 5, Synced, between two crossings, the last one 1000 with number 500. -/
def running : State :=
  { State.reset with
    timer := ⟨some ⟨1000, 500, 7⟩, .synced, none⟩
    run := ⟨.run, 5, 0, 0⟩
    pipeline := ⟨[], some 1000, false⟩ }

/-- The same, crossing 1001 entered. -/
def entered : State := { running with timer := ⟨some ⟨1001, 501, 7⟩, .synced, some formed⟩ }

/-- The state with another run state. -/
def inState (r : RunState) (s : State) : State := { s with run := { s.run with state := r } }

/-- A state whose crossing 1001 is a boundary still to be taken. -/
def atBoundary (r : RunState) : State :=
  inState r { running with timer := ⟨some ⟨1001, 0, 7⟩, .synced, some { formed with boundaryDue := true }⟩ }

/-- Active values put in place of the defaults. -/
def withActive (s : State) (values : List (Nat × Int)) : State :=
  { s with settings := { s.settings with
      active := values.foldl (fun m v => setItemValue m v.1 v.2) s.settings.active } }

/-- Frozen in Idle with write head 1000. -/
def frozen : State := { inState .idle running with pipeline := ⟨[], some 1000, true⟩ }

/-- A queue entry for event `n`. -/
def entry (n : Nat) (accept : Int) : Entry :=
  ⟨BitVec.ofNat 24 n, 5, some accept, 0, 0, some 900, false, false, none⟩

/-- A window of the default geometry in a slot. -/
def window (slot : Fin 4) (state : WindowState) : Window :=
  { slot := slot, state := state, event := 43, epoch := 5, accept := some 872, number := 0, turnLow := 0, late := false,
    rawForced := false, diagnostic := false, testMatch := some ⟨316, 1⟩, pre := 2, post := 4, tapStart := 0,
    columns := List.replicate 6 Column.empty, present := Oct.all false }

/-- A descriptor with a payload reference. -/
def descriptor (n : Nat) (state : DescriptorState) (payload : Option PayloadReference) : Descriptor :=
  { event := BitVec.ofNat 24 n, epoch := 5, number := 0, turnLow := 0, generation := 0, windowLength := 7, state := state,
    truncated := false, late := false, diagnostic := false, rawForced := false, testMatch := none, payload := payload }

/-- The Event Buffer of the worked sequence of section 7.8. -/
def buffer78 : EventBuffer :=
  ⟨[descriptor 40 .ready (some ⟨8120, 24⟩), { descriptor 41 .ready none with late := true },
    descriptor 42 .ready (some ⟨8144, 26⟩)], [], 8170, 50⟩

/-- The current event in its last crossing, with the start of the next crossing still to come. -/
def building : Building :=
  { slot := 0, snapshot := snapshotOf State.reset, generation := 0, channel := 7, phase := .first,
    recordPosition := 31, records := 5 }

/-- Event 43 of section 7.8 with every record placed. -/
def completing : State :=
  { running with
    windows := [window 0 .inUse]
    recon := some building
    buffer := ⟨[descriptor 42 .ready (some ⟨8144, 26⟩),
      { descriptor 43 .building (some ⟨8170, 60⟩) with testMatch := some ⟨316, 1⟩ }], [], 38, 86⟩ }

/-! ### Well-formedness -/

theorem test_wellFormed_refuses_good_frame :
    (Instr.linkError 0b0010#4).wellFormed = false ∧ (Instr.linkError 0b0011#4).wellFormed = true := by decide

theorem test_wellFormed_refuses_assigned_readout_codes :
    (Instr.readoutUnassigned 1).wellFormed = false ∧ (Instr.readoutUnassigned 3).wellFormed = false ∧
    (Instr.readoutUnassigned 0).wellFormed = true ∧ (Instr.readoutUnassigned 4).wellFormed = true := by decide

theorem test_wellFormed_refuses_assigned_control_codes :
    (Instr.controlUnassigned 1).wellFormed = false ∧ (Instr.controlUnassigned 26).wellFormed = false ∧
    (Instr.controlUnassigned 0).wellFormed = true ∧ (Instr.controlUnassigned 27).wellFormed = true := by decide

/-! ### Link words -/

theorem test_frames_decode :
    decodeFrame 0b0001#4 = .noneCommand ∧ decodeFrame 0b0010#4 = .accept ∧ decodeFrame 0b0100#4 = .turnMarker ∧
    decodeFrame 0b0111#4 = .testFire ∧ decodeFrame 0b1000#4 = .resync ∧
    decodeFrame 0b0011#4 = .linkError 0b0011#4 ∧ decodeFrame 0b1011#4 = .linkError 0b1011#4 := by decide

theorem test_readout_words_decode :
    decodeReadoutRequest 0x10000000#32 = .fetch ∧ decodeReadoutRequest 0x25000011#32 = .release 5 17 ∧
    decodeReadoutRequest 0x30000000#32 = .status ∧ decodeReadoutRequest 0xf0000000#32 = .readoutUnassigned 15 := by decide

theorem test_control_words_decode :
    decodeControlRequest 0x08330000#32 0xf0883000#32 = .writeItem 51 0 0xf0883000#32 ∧
    decodeControlRequest 0x10058003#32 0 = .readItem 5 3 true ∧
    decodeControlRequest 0xa00a0007#32 0x0c800000#32 = .writeCell 10 7 0x0c800000#32 ∧
    decodeControlRequest 0xd00a0000#32 0 = .diagnosticAccept 10 ∧
    decodeControlRequest 0xd8000000#32 0 = .controlUnassigned 27 := by decide

theorem test_no_table_word_decodes : decodeTableWord 32 0x10000000 = none := by decide

theorem test_status_words :
    statusWord0 entered = 0xd5004000#32 ∧ statusWord1 entered = 0 ∧ statusWord2 entered = 0x50000000#32 := by
  decide +kernel

/-! ### Gain selection and auto-kill (01) -/

/-- The gain and the hold counter after each of a list of code pairs. -/
def selections (threshold load hold : Nat) (l : List CodePair) : List (Gain × Nat) :=
  match l with
  | [] => []
  | p :: rest =>
    selectGain threshold load hold p :: selections threshold load (selectGain threshold load hold p).2 rest

theorem test_gain_selection_sequence :
    selections 3840 2 0
      [pair 1200 95, pair 3900 300, pair 2500 190, ⟨4095, true, 150, false⟩, ⟨1800, false, 12, true⟩, pair 4000 4095,
       pair 3000 240, pair 3850 210, pair 900 70, pair 850 66, pair 820 64]
      = [(.high, 0), (.low, 2), (.low, 1), (.low, 1), (.low, 0), (.low, 2), (.low, 1), (.low, 2), (.low, 1), (.low, 0),
         (.high, 0)] := by decide

/-- Channel 5 before crossing m + 2 of the auto-kill example. -/
def beforeKill : State :=
  { withActive running [(23 * 8 + 5, 3)] with
    inputs := ⟨(Oct.all ⟨false, 0, 0, false⟩).set 5 ⟨false, 2, 1, false⟩, none⟩ }

theorem test_third_fault_makes_kill_due :
    (match exec (.crossingStart (quiet.set 5 ⟨1500, false, 7, true⟩)) beforeKill with
     | .next t => decide (t.inputs.channels.get 5 = ⟨false, 3, 0, true⟩ ∧ t.monitor.counts.converterFault = 1)
     | _ => false) = true := by decide +kernel

theorem test_autoKill :
    (match exec (.autoKill 5) { running with inputs := ⟨(Oct.all ⟨false, 0, 0, false⟩).set 5 ⟨false, 3, 0, true⟩, none⟩ } with
     | .next t => decide (t.inputs.channels.get 5 = ⟨true, 0, 0, false⟩ ∧ t.monitor.counts.channelKilled = 1)
     | _ => false) = true := by decide +kernel

/-! ### Tower sums (04) -/

theorem test_contributions :
    [(-2), 10, 1200, 5000, 2600, 900, 200, 30].map (fun u => contribution u 16384) = [0, 3, 300, 1250, 650, 225, 50, 8] ∧
    [1, -7, 398, 1802, 301, 62, 18].map (fun u => contribution u 16384) = [0, -2, 100, 451, 75, 16, 5] := by decide

/-- A history of three present entries, with the invalid mark of each. -/
def history (a b c : Int × Bool) : TowerHistory :=
  ⟨some ⟨a.1, a.2, false⟩, some ⟨b.1, b.2, false⟩, some ⟨c.1, c.2, false⟩⟩

theorem test_tower_sequence :
    decidePrimitive true 4 2 (history (0, false) (1, false) (400, false)) = ⟨0, .none⟩ ∧
    decidePrimitive true 4 2 (history (1, false) (400, false) (1701, false)) = ⟨0, .none⟩ ∧
    decidePrimitive true 4 2 (history (400, false) (1701, false) (650, true)) = ⟨0, .invalid⟩ ∧
    signalsInvalid 2 (history (400, false) (1701, false) (650, true)) = true ∧
    decidePrimitive true 4 1 (history (400, false) (1701, false) (650, true)) = ⟨255, .invalid⟩ ∧
    decidePrimitive true 4 2 (history (300, false) (66, false) (13, false)) = ⟨0, .none⟩ := by decide

theorem test_peak_values :
    decidePrimitive true 4 2 (history (400, false) (1701, false) (901, false)) = ⟨163, .none⟩ ∧
    decidePrimitive false 4 2 (history (400, false) (1701, false) (901, false)) = ⟨106, .none⟩ := by decide

/-! ### Throttle (03) -/

/-- Run with a queue, a ring and free payload words of given sizes. -/
def occupied (throttle : Throttle) (queue ring free : Nat) : State :=
  { entered with
    trigger := ⟨throttle, none⟩
    queue := { entered.queue with entries := List.replicate queue (entry 1 900) }
    buffer := ⟨List.replicate ring (descriptor 1 .ready none), [], 0, 8192 - free⟩ }

theorem test_throttle_burst :
    throttleAfter (occupied .off 9 40 6000) = .off ∧ throttleAfter (occupied .off 12 40 6000) = .on ∧
    throttleAfter (occupied .on 10 43 5700) = .on ∧ throttleAfter (occupied .on 8 49 3100) = .on ∧
    throttleAfter (occupied .on 8 48 1900) = .on ∧ throttleAfter (occupied .on 7 48 2100) = .off ∧
    throttleAfter (occupied .off 5 56 2300) = .on := by decide +kernel

/-! ### Accepts and capture (05) -/

/-- The Injection List of the test-match example. -/
def fired : State := { entered with injection := ⟨.off, .up, [⟨6950, 284⟩, ⟨7000, 300⟩, ⟨7002, 316⟩], Oct.all none⟩ }

theorem test_testMatch_example :
    testMatchAt fired 7021 = some ⟨316, -1⟩ ∧ testMatchAt fired 7023 = some ⟨316, 1⟩ ∧ testMatchAt fired 7030 = none := by
  decide +kernel

theorem test_accept_crossing :
    (match exec .accept running with
     | .next t => decide ((t.queue.entries.map fun e => (e.event, e.accept, e.intake)) = [(0, some 873, some 1001)] ∧
         t.queue.eventCounter = 1)
     | _ => false) = true := by decide +kernel

/-- An entry whose first column is as many crossings old as given at crossing 1001. -/
def waiting (age : Int) : State :=
  { entered with queue := ⟨[entry 7 (1001 - age + 2)], 8, 0⟩ }

theorem test_capture_begin_late :
    (match exec .captureBegin (waiting 256) with
     | .next t => decide ((t.windows.map fun w => (w.state, w.late)) = [(.full, true)] ∧ t.capture = none ∧
         t.monitor.counts.lateCapture = 1)
     | _ => false) = true ∧
    (match exec .captureBegin (waiting 255) with
     | .next t => decide ((t.windows.map fun w => (w.state, w.late)) = [(.filling, false)] ∧ t.capture = some ⟨0, 0⟩)
     | _ => false) = true := by decide +kernel

/-- The ring and the windows after rows are taken one after the other. -/
def chainAfter (rows : List Instr) (s : State) : List DescriptorState × List WindowState :=
  ((runRows rows s).buffer.ring.map fun d => d.state, (runRows rows s).windows.map fun w => w.state)

theorem test_late_begin_before_and_after_the_look :
    chainAfter [.captureBegin, .reconstructionBegin, .crossingStart quiet] (waiting 256) = ([.ready], []) ∧
    chainAfter [.reconstructionBegin, .captureBegin, .crossingStart quiet] (waiting 256) = ([], [.full]) ∧
    chainAfter [.reconstructionBegin, .captureBegin, .crossingStart quiet, .crossingStart quiet] (waiting 256)
      = ([.ready], []) := by decide +kernel

/-! ### Pulses (06) -/

/-- A column that holds `c` for channel 0. -/
def columnWith (c : Cell) : Column := { Column.empty with cells := (Oct.all Cell.off).set 0 c }

/-- A Good record of a gain. -/
def good (g : Gain) (code : Nat) : Cell := ⟨.good, BitVec.ofNat 12 code, g, some .normal⟩

/-- The snapshot of the worked cases. -/
def snapshot66 (negative : Int) : Snapshot :=
  { channel := Oct.all
      { hgPedestal := 800, lgPedestal := 820, gainRatio := 4352, a0 := 0, a1 := 4096, a2 := 12288, a3 := 2048, a4 := 0,
        energyConstant := 4096, b0 := 0, b1 := -8192, b2 := 0, b3 := 8192, b4 := 0, quietThreshold := 2,
        negativeThreshold := negative }
    timeFloor := 1000, pileUpFloor := 2000, pileUpFraction := 64, keepAll := false, rawAlways := false }

/-- The window of the worked cases. -/
def window66 (cells : List Cell) : Window :=
  { window 0 .inUse with testMatch := none, columns := cells.map columnWith, present := (Oct.all false).set 0 true }

theorem test_pulse_across_gain_switch :
    reconstructChannel (snapshot66 8)
        (window66 [good .high 203, good .high 1610, good .low 560, good .low 330, good .low 240, good .high 390, good .high 215]) 0
      = ⟨.pulse, true, false, false, false, some 4, 20578, 1286⟩ := by decide +kernel

/-- The channel below its pedestal of section 6.7. -/
def window67 : Window :=
  window66 [good .high 199, good .high 198, good .low 204, good .high 198, good .high 200, good .high 201, good .high 199]

theorem test_channel_below_pedestal :
    reconstructChannel (snapshot66 8) window67 0 = ⟨.quiet, true, false, false, false, none, -54, -3⟩ ∧
    reconstructChannel (snapshot66 2) window67 0 = ⟨.negative, true, false, false, false, none, -54, -3⟩ ∧
    channelWords (snapshot66 8) window67 0 = [] ∧ (channelWords (snapshot66 2) window67 0).length = 3 := by decide +kernel

/-- The saturated tap of section 6.8. -/
def window68 : Window :=
  window66 [good .high 260, good .low 1400, ⟨.saturated, 4095, .low, some .normal⟩, good .low 2100, good .low 700,
    good .high 1500, good .high 600]

theorem test_saturated_tap :
    reconstructChannel (snapshot66 8) window68 0 = ⟨.overflow, true, false, false, false, some 6, 234813, 14676⟩ ∧
    (channelWords (snapshot66 8) window68 0).length = 7 := by decide +kernel

/-! ### The Event Buffer (07) -/

theorem test_begin_wraps :
    (match exec .reconstructionBegin { entered with buffer := buffer78, windows := [window 0 .full] } with
     | .next t => decide (t.buffer.fillPoint = 38 ∧ t.buffer.wordsInUse = 110 ∧ t.buffer.ring.length = 4 ∧
         (t.buffer.ring.getLast?.map fun d => (d.state, d.payload)) = some (.building, some ⟨8170, 60⟩))
     | _ => false) = true := by decide +kernel

/-- Channel index and phase of the current event after `n` crossing starts. -/
def phaseAfter (n : Nat) (b : Building) : Option (Channel × BuildingPhase) :=
  (runRows (List.replicate n (.crossingStart quiet)) { completing with recon := some b }).recon.map fun x =>
    (x.channel, x.phase)

theorem test_channel_index_through_two_crossings :
    phaseAfter 1 { building with channel := 0, phase := .begun } = some (0, .first) ∧
    phaseAfter 2 { building with channel := 0, phase := .begun } = some (0, .placed) ∧
    phaseAfter 3 { building with channel := 0, phase := .begun } = some (1, .first) ∧
    phaseAfter 1 building = some (7, .due) ∧ phaseAfter 2 building = none := by decide +kernel

theorem test_completion_returns_reservation :
    (match exec .reconstructionComplete completing with
     | .next t => decide (t.buffer.fillPoint = 9 ∧ t.buffer.wordsInUse = 57 ∧ t.windows = [] ∧ t.recon = none ∧
         (t.buffer.ring.getLast?.map fun d => (d.state, d.payload)) = some (.ready, some ⟨8170, 31⟩) ∧
         payloadWord t.buffer 8170 = 0x1500002b#32 ∧ payloadWord t.buffer 8173 = 0x4f100000#32)
     | _ => false) = true := by decide +kernel

/-! ### The request links (08, 09) -/

theorem test_status_while_streaming :
    (match exec .status { running with readout := ⟨some (.words [7]), false, none, none⟩ } with
     | .next t => decide (t.readout.overrun = some ⟨3, 1⟩ ∧ t.readout.response = some (.words [7]) ∧
         t.monitor.counts.requestOverrun = 1)
     | _ => false) = true := by decide +kernel

theorem test_busy_after_stream :
    (match exec (.responseEnd .readout)
        { running with readout := ⟨some (.stream ⟨5, 17, 10, 10, .stored 0, true, false⟩), false, some ⟨3, 1⟩, none⟩ } with
     | .next t => decide (t.readout.response = some (.words [0xc3010000#32]) ∧ t.readout.overrun = none)
     | _ => false) = true := by decide +kernel

theorem test_window_group_is_clamped :
    (match exec (.writeItem 51 0 0xfa883000#32) (inState .idle running) with
     | .next t => decide (t.control.response = some (.words [0x09000100#32, 0xf0883000#32]) ∧ t.settings.touched = [408] ∧
         windowWord t.settings.pending = 0xf0883000#32)
     | _ => false) = true := by decide +kernel

/-- Idle with pending values written. -/
def pendingWith (values : List (Nat × Int)) (items : List Nat) : State :=
  { inState .idle running with settings := { State.reset.settings with
      pending := values.foldl (fun m v => setItemValue m v.1 v.2) []
      touched := items } }

theorem test_take_checks :
    takeReply (pendingWith [(408, 240), (409, 8), (410, 8), (411, 3), (400, 3100)] [400, 408]) = .invalidSet 1 ∧
    takeReply (pendingWith [(408, 240), (409, 8), (410, 7), (411, 3), (400, 3100)] [400, 408]) = .invalidSet 5 ∧
    takeReply (pendingWith [(384, 3200), (408, 240), (409, 8), (410, 7), (411, 3), (400, 3100)] [384, 400, 408])
      = .scheduled := by decide +kernel

/-! ### Tracker, injection, faults (10, 11) -/

/-- Section 10.3 before its boundary. -/
def before103 : State :=
  { withActive (atBoundary .run) [(4 * 8 + 3, 820), (4 * 8 + 5, 815), (22 * 8 + 3, 1), (22 * 8 + 5, 1)] with
    tracker := ((Oct.all ⟨⟨0, 0, none, none⟩, ⟨0, 0, none, none⟩⟩).set 3 ⟨⟨8000, 40, some 806, none⟩, ⟨7200, 36, some 818, none⟩⟩).set 5
      ⟨⟨2400, 12, some 803, none⟩, ⟨4000, 20, none, none⟩⟩
    settings := { (withActive (atBoundary .run) [(35, 820), (37, 815), (179, 1), (181, 1)]).settings with
      pending := setItemValue (setItemValue [] 35 830) 512 4, touched := [35, 512], take := .scheduled, generation := 42 } }

theorem test_boundary_take_and_install :
    (match exec .turnBoundary before103 with
     | .next t => decide (activePedestal t 3 .low = 830 ∧ trackLimit t = 4 ∧ activePedestal t 3 .high = 800 ∧
         activePedestal t 5 .high = 803 ∧ accumulator t 3 .low = ⟨0, 0, none, none⟩ ∧
         accumulator t 3 .high = ⟨8000, 40, none, none⟩ ∧ t.settings.generation = 43 ∧ t.settings.touched = [] ∧
         t.monitor.counts.pedestalJump = 1 ∧ t.timer.sync = .synced)
     | _ => false) = true := by decide +kernel

theorem test_candidates :
    candidateOf ⟨12700, 63, none, none⟩ 200 = 806 ∧ candidateOf ⟨12885, 63, none, none⟩ 205 = 818 := by decide

/-- The scan of section 10.2 with an End policy, its point ended at an amplitude. -/
def scanning (policy : Int) (d : Direction) (a : Nat) : State :=
  { withActive running [(67 * 8, 960), (69 * 8, 32), (71 * 8, 2), (72 * 8, policy)] with
    injection := ⟨.running a 1 true, d, [], Oct.all none⟩ }

theorem test_scan_policies :
    (stepScan (scanning 0 .up 960)).injection.scan = .running 992 0 false ∧
    (stepScan (scanning 0 .up 992)).injection.scan = .done 992 ∧
    (stepScan (scanning 1 .up 992)).injection.scan = .running 960 0 false ∧
    ((stepScan (scanning 2 .up 992)).injection.scan, (stepScan (scanning 2 .up 992)).injection.direction)
      = (.running 960 0 false, .down) ∧
    ((stepScan (scanning 2 .down 960)).injection.scan, (stepScan (scanning 2 .down 960)).injection.direction)
      = (.running 992 0 false, .up) := by decide +kernel

theorem test_attention_across_a_clear :
    ((State.reset.monitor.occurrence .linkError).attention = true) ∧
    (clearCauses 0b10#10 (report .pedestalJump (report .linkError State.reset))).monitor.attention = false ∧
    (setEnables 0b1000111#10 (clearCauses 0b10#10 (report .pedestalJump (report .linkError State.reset)))).monitor.attention
      = true := by decide +kernel

theorem test_restart_keeps_settings :
    (match exec .restart before103 with
     | .next t => decide (t.settings.active = before103.settings.active ∧ t.settings.touched = [35, 512] ∧
         t.settings.generation = 42 ∧ t.settings.take = .none ∧ t.run.state = .idle ∧ t.timer.position = none)
     | _ => false) = true := by decide +kernel

/-! ### The hypotheses of the statements are met -/

/-- The state of `completing` with a crossing start waiting. -/
def stepping : State := { completing with pending := [.crossingStart quiet] }

theorem test_met_invariants :
    StoresCanonical stepping ∧ WithinCapacity stepping ∧ CountsBounded stepping ∧ TrackerBounded stepping ∧
    ThrottleInRun stepping ∧ FrozenInIdle stepping ∧ SyncedOutsideIdle stepping ∧ NumberInTurn stepping ∧
    ActiveConsistent stepping ∧ SettingsInRange stepping ∧ QueueNumbered stepping := by
  refine ⟨?_, ?_, ?_, ?_, ?_, ?_, ?_, ?_, ?_, ?_, ?_⟩ <;> decide +kernel

theorem test_met_BufferSoundKept : BufferSound stepping ∧ ∃ t, step stepping = .next t := by
  refine ⟨⟨by decide +kernel, by decide +kernel, by decide +kernel, ⟨by decide +kernel, by decide +kernel⟩,
    ⟨window 0 .inUse, { descriptor 43 .building (some ⟨8170, 60⟩) with testMatch := some ⟨316, 1⟩ }, ⟨8170, 60⟩,
      rfl, rfl, rfl, rfl, rfl, by decide, by decide, by unfold placedWithin; decide⟩, trivial⟩, ⟨_, rfl⟩⟩

theorem test_met_ActiveConsistentKept :
    ActiveConsistent { pendingWith [(384, 3200)] [384] with
      settings := { (pendingWith [(384, 3200)] [384]).settings with take := .scheduled } } := by decide +kernel

theorem test_met_LinkRequestsRoundTrip :
    Instr.accept.wellFormed = true ∧ encodeFrame .accept = some 2#4 ∧
    encodeReadoutRequest (.release 15 0xffffff#24) = some 0x2fffffff#32 ∧
    encodeControlRequest (.writeCell 255 7 0#32) = some (0xa0ff0007#32, some 0#32) ∧
    encodeControlRequest .start = some (0x30000000#32, none) := by decide

theorem test_met_CrossingStartCounts :
    (TimerWhole State.reset ∧ TimerWhole running ∧ TimerWhole entered) ∧
    (State.reset.timer.forming = none ∧ State.reset.timer.position = none) ∧
    (running.timer.forming = none ∧ running.timer.position = some ⟨1000, 500, 7⟩ ∧ 500 + 1 ≠ turnLength running) ∧
    2999 + 1 = turnLength { running with timer := ⟨some ⟨1000, 2999, 7⟩, .synced, none⟩ } := by decide +kernel

theorem test_met_EnteredAt : EnteredAt entered ⟨1001, 501, 7⟩ formed ∧ formed.frameTaken = false := by decide

/-- Channel 0 at the threshold with LG at its top, channel 1 with a faulted HG, channel 2 held, channel 3 killed. -/
def mixed : State :=
  { entered with inputs := ⟨((Oct.all ⟨false, 0, 0, false⟩).set 2 ⟨false, 0, 1, false⟩).set 3 ⟨true, 0, 0, false⟩, none⟩ }

theorem test_met_CrossingStartWritesColumn :
    EnteredAt mixed ⟨1001, 501, 7⟩ formed ∧ mixed.pipeline.frozen = false ∧
    effectiveSource mixed 0 = some .normal ∧ switchThreshold mixed 0 ≤ (pair 3840 4095).hg.toNat ∧
    ¬ switchThreshold mixed 0 ≤ (pair 3839 0).hg.toNat ∧ 0 < (mixed.inputs.channels.get 2).hold ∧
    effectiveSource mixed 3 = none ∧
    EnteredAt { frozen with timer := entered.timer } ⟨1001, 501, 7⟩ formed ∧
    { frozen with timer := entered.timer }.pipeline.frozen = true := by decide +kernel

theorem test_met_UplinkFrameContents : TimerWhole entered ∧ TimerWhole State.reset := by decide

theorem test_met_ThrottleEvaluated :
    EnteredAt (occupied .off 12 56 1023) ⟨1001, 501, 7⟩ formed ∧ (occupied .off 12 56 1023).run.state = .run ∧
    EnteredAt (occupied .on 8 48 2048) ⟨1001, 501, 7⟩ formed ∧ (occupied .on 8 48 2048).trigger.throttle = .on := by
  decide +kernel

/-- Tower 0 after crossing 1001 at quiet inputs, from the entries for 999 and 1000: its history and the primitive sent. -/
def towerAfter (a b : Option TowerSum) : Option (TowerHistory × Primitive) :=
  match exec (.crossingStart quiet) { entered with towers := Quad.all ⟨none, a, b⟩ } with
  | .next t => t.trigger.uplink.map fun u => (t.towers.get 0, u.primitives.get 0)
  | _ => none

theorem test_met_TowersAndPrimitives :
    EnteredAt entered ⟨1001, 501, 7⟩ formed ∧ entered.pipeline.frozen = false ∧ entered.timer.sync = .synced ∧
    towerAfter (some ⟨0, false, false⟩) (some ⟨1021, false, false⟩)
      = some (⟨some ⟨0, false, false⟩, some ⟨1021, false, false⟩, some ⟨0, false, false⟩⟩, ⟨255, .none⟩) ∧
    (towerAfter (some ⟨0, false, false⟩) (some ⟨1022, false, false⟩)).map (fun x => x.2) = some ⟨255, .saturated⟩ ∧
    (towerAfter (some ⟨0, false, false⟩) (some ⟨0, false, false⟩)).map (fun x => x.2) = some ⟨0, .none⟩ ∧
    (towerAfter none (some ⟨0, true, true⟩)).map (fun x => x.2) = some ⟨255, .saturated⟩ ∧
    (towerAfter (some ⟨0, true, false⟩) (some ⟨9, false, false⟩)).map (fun x => x.2) = some ⟨0, .invalid⟩ ∧
    (towerAfter none (some ⟨9, false, false⟩)).map (fun x => x.2) = some ⟨0, .invalid⟩ := by decide +kernel

/-- Channel 4 tracked in the gap crossing 1001, with one fire in the list and a count. -/
def tracked (fire count : Nat) : State :=
  setAccumulator
    { withActive entered [(22 * 8 + 4, 1)] with
      timer := ⟨some ⟨1001, 2999, 7⟩, .synced, some formed⟩
      injection := ⟨.off, .up, [⟨fire, 300⟩], Oct.all none⟩ } 4 .high ⟨1, count, none, none⟩

theorem test_met_PedestalsAccumulate :
    EnteredAt (tracked 993 62) ⟨1001, 2999, 7⟩ formed ∧ (tracked 993 62).pipeline.frozen = false ∧
    trackingOn (tracked 993 62) 4 = true ∧ gapStart (tracked 993 62) ≤ 2999 ∧ 2999 = gapEnd (tracked 993 62) ∧
    effectiveSource (tracked 993 62) 4 = some .normal ∧
    (∀ i ∈ (tracked 993 62).injection.fires, ¬ (i.index ≤ 1001 ∧ 1001 - i.index ≤ 7)) ∧
    ¬ (∀ i ∈ (tracked 994 62).injection.fires, ¬ (i.index ≤ 1001 ∧ 1001 - i.index ≤ 7)) ∧
    (accumulator (tracked 993 62) 4 .high).count + 1 < 64 ∧ 64 ≤ (accumulator (tracked 993 63) 4 .high).count + 1 := by
  decide +kernel

/-- A readout port in the middle of a stream. -/
def streaming (source : StreamSource) (position : Nat) (aborted : Bool) : State :=
  { running with readout := ⟨some (.stream ⟨5, 17, 3, position, source, false, aborted⟩), false, none, none⟩ }

theorem test_met_PortsSendOneWord :
    (∃ w rest, { running with control := ⟨some (.words [7]), false, none, none⟩ }.control.response
      = some (.words (w :: rest))) ∧
    (streaming (.stored 8190) 2 false).readout.response = some (.stream ⟨5, 17, 3, 2, .stored 8190, false, false⟩) ∧
    (streaming (.formed [1, 2, 3]) 2 false).readout.response
      = some (.stream ⟨5, 17, 3, 2, .formed [1, 2, 3], false, false⟩) ∧
    (streaming (.stored 8190) 3 false).readout.response = some (.stream ⟨5, 17, 3, 3, .stored 8190, false, false⟩) ∧
    (streaming (.stored 8190) 0 true).readout.response = some (.stream ⟨5, 17, 3, 0, .stored 8190, false, true⟩) ∧
    running.readout.response = none ∧ (Port.mk (some (.words [7])) true none none).waits = true ∧
    (Port.mk (some (.words [])) false (some ⟨3, 1⟩) none).overrun = some ⟨3, 1⟩ :=
  ⟨⟨7, [], rfl⟩, rfl, rfl, rfl, rfl, rfl, rfl, rfl⟩

theorem test_met_FramesEnterTheCrossing :
    TimerWhole running ∧ frameTaken running = false ∧
    TimerWhole { running with timer := ⟨some ⟨1001, 501, 7⟩, .synced, some { formed with frameTaken := true }⟩ } ∧
    frameTaken { running with timer := ⟨some ⟨1001, 501, 7⟩, .synced, some { formed with frameTaken := true }⟩ } = true ∧
    EnteredAt entered ⟨1001, 501, 7⟩ formed ∧ formed.frameTaken = false ∧ entered.run.state = .run ∧
    (inState .lost entered).run.state ≠ .run := by
  decide

theorem test_met_AcceptByRunState :
    (occupied .off 15 0 0).run.state = .run ∧ (occupied .off 15 0 0).queue.entries.length < 16 ∧
    EnteredAt (occupied .off 16 0 0) ⟨1001, 501, 7⟩ formed ∧ 16 ≤ (occupied .off 16 0 0).queue.entries.length ∧
    (∀ r, EnteredAt (inState r entered) ⟨1001, 501, 7⟩ formed ∧ (inState r entered).run.state = r) := by
  refine ⟨rfl, by decide, by decide, by decide, fun r => ⟨by cases r <;> decide, rfl⟩⟩

theorem test_met_TestMatchIsNewest : ∃ m, testMatchAt fired 7021 = some m := ⟨⟨316, -1⟩, by decide +kernel⟩

theorem test_met_ResyncEffect :
    EnteredAt { completing with timer := entered.timer } ⟨1001, 501, 7⟩ formed ∧ completing.run.state = .run ∧
    completing.recon = some building ∧
    completing.buffer.ring = [descriptor 42 .ready (some ⟨8144, 26⟩)]
      ++ [{ descriptor 43 .building (some ⟨8170, 60⟩) with testMatch := some ⟨316, 1⟩ }] ∧
    (inState .lost entered).run.state = .lost ∧ (inState .lost entered).recon = none := by decide +kernel

/-- Crossing 1001 with a record of what has been taken of it. -/
def forming (r : RunState) (number : Nat) (f : Forming) : State :=
  inState r { running with timer := ⟨some ⟨1001, number, 7⟩, .synced, some f⟩ }

theorem test_met_TurnMarkerEffect :
    TimerWhole running ∧ frameTaken running = false ∧ isForming running = false ∧
    (openCrossing running).timer.position = some ⟨1001, 500, 7⟩ ∧
    (openCrossing running).timer.sync = .synced ∧ 500 + 1 ≠ turnLength (openCrossing running) ∧
    TimerWhole (forming .resyncing 0 { formed with lengthChanged := true }) ∧
    frameTaken (forming .resyncing 0 { formed with lengthChanged := true }) = false ∧
    (openCrossing (forming .resyncing 501 formed)).run.state = .resyncing := by decide +kernel

theorem test_met_TurnBoundaryEffect :
    boundaryDue (formNumber (openCrossing running)) = false ∧
    boundaryDue (formNumber (openCrossing { running with timer := ⟨some ⟨1000, 2999, 7⟩, .synced, none⟩ })) = true ∧
    (∀ r, (atBoundary r).timer.position = some ⟨1001, 0, 7⟩ ∧
      (atBoundary r).timer.forming = some { formed with boundaryDue := true } ∧ (atBoundary r).run.state = r) := by
  refine ⟨by decide +kernel, by decide +kernel, fun r => ⟨rfl, rfl, rfl⟩⟩

theorem test_met_BoundaryAppliesTake :
    before103.timer.position = some ⟨1001, 0, 7⟩ ∧ before103.timer.forming = some { formed with boundaryDue := true } ∧
    StoresCanonical before103 ∧ before103.settings.take = .scheduled := by decide +kernel

/-- A take that carries the Track limit 8 beside candidates at and above it, an HG pedestal with a candidate of its own, and
Tracking Off on channel 6. -/
def taking : State :=
  { withActive (atBoundary .run) [(22 * 8 + 6, 1)] with
    settings :=
      { (withActive (atBoundary .run) [(22 * 8 + 6, 1)]).settings with
        pending := [(3 * 8 + 4, 810), (64 * 8, 8)]
        touched := [3 * 8 + 4, 22 * 8 + 6, 64 * 8]
        take := .scheduled }
    tracker :=
      (((Oct.all ⟨⟨0, 0, none, none⟩, ⟨0, 0, none, none⟩⟩).set 3 ⟨⟨5, 1, some 808, none⟩, ⟨0, 0, some 809, none⟩⟩).set 4
        ⟨⟨5, 1, some 801, none⟩, ⟨5, 1, none, none⟩⟩).set 6 ⟨⟨5, 1, some 801, none⟩, ⟨0, 0, none, none⟩⟩ }

theorem test_boundary_take_then_installs :
    StoresCanonical taking ∧ taking.settings.take = .scheduled ∧ taking.timer.forming = some { formed with boundaryDue := true } ∧
    (match exec .turnBoundary taking with
     | .next t => decide (activePedestal t 3 .high = 808 ∧ activePedestal t 3 .low = 800 ∧ activePedestal t 4 .high = 810 ∧
         accumulator t 3 .high = ⟨5, 1, none, none⟩ ∧ accumulator t 4 .high = ⟨0, 0, none, none⟩ ∧
         accumulator t 4 .low = ⟨5, 1, none, none⟩ ∧ accumulator t 6 .high = ⟨0, 0, none, none⟩ ∧
         t.monitor.counts.pedestalJump = 1 ∧ t.settings.generation = 1)
     | _ => false) = true := by decide +kernel

/-- Section 10.3 without a take, a candidate at the Track limit and one above it. -/
def offering : State :=
  { atBoundary .run with
    tracker := (Oct.all ⟨⟨0, 0, none, none⟩, ⟨0, 0, none, none⟩⟩).set 3 ⟨⟨0, 0, some 816, none⟩, ⟨0, 0, some 817, none⟩⟩ }

theorem test_met_BoundaryInstallsCandidates :
    offering.timer.forming = some { formed with boundaryDue := true } ∧ StoresCanonical offering ∧
    offering.settings.take = .none ∧ (accumulator offering 3 .high).held = some 816 ∧
    |(816 : Int) - activePedestal offering 3 .high| ≤ trackLimit offering ∧
    trackLimit offering < |(817 : Int) - activePedestal offering 3 .low| := by decide +kernel

/-- A channel of a kind. -/
def withChannel (c : InputChannel) : State :=
  { running with inputs := ⟨(Oct.all ⟨false, 0, 0, false⟩).set 7 c, none⟩ }

theorem test_met_AutoKillAndRevive :
    ((withChannel ⟨false, 3, 0, true⟩).inputs.channels.get 7).killDue = true ∧
    ((withChannel ⟨false, 3, 0, true⟩).inputs.channels.get 6).killDue = false ∧
    ControlReady (withChannel ⟨true, 0, 0, false⟩) ∧ 8 ≤ (8#16).toNat ∧ (7#16).toNat = (7 : Channel).val ∧
    ((withChannel ⟨true, 0, 0, false⟩).inputs.channels.get 7).killed = true ∧
    ((withChannel ⟨true, 0, 0, false⟩).inputs.channels.get 6).killed = false := by decide +kernel

/-- An accumulator of channel 4 with its 64th code waiting. -/
def accumulated (sum : Nat) : State :=
  setAccumulator running 4 .high ⟨sum, 63, none, some 200⟩

theorem test_met_PedestalCandidateEffect :
    (accumulator (accumulated 12856) 4 .high).due = some 200 ∧ (accumulator (accumulated 12856) 4 .low).due = none ∧
    |(((12856 + 200 + 8) / 16 : Nat) : Int) - activePedestal (accumulated 12856) 4 .high| = trackLimit (accumulated 12856) ∧
    trackLimit (accumulated 12864) < |(((12864 + 200 + 8) / 16 : Nat) : Int) - activePedestal (accumulated 12864) 4 .high| := by
  decide +kernel

/-- A fire of crossing `i`. -/
def firedAt (i : Nat) : State := { running with injection := ⟨.off, .up, [⟨i, 300⟩], Oct.all none⟩ }

theorem test_met_InjectionListEffects :
    (firedAt 745).timer.forming = none ∧ (∃ f ∈ (firedAt 745).injection.fires, f.index + 256 ≤ 1000 + 1) ∧
    (∀ f ∈ (firedAt 746).injection.fires, 1000 + 1 < f.index + 256) ∧
    EnteredAt fired ⟨1001, 501, 7⟩ formed ∧ formed.frameTaken = false ∧ fired.injection.fires.length < 4 := by decide

theorem test_met_ScanEffects :
    (scanning 0 .up 991).injection.scan = .running 991 1 true ∧
    (991 : Int) + scanStepSize (scanning 0 .up 991) ≤ scanHigh (scanning 0 .up 991) ∧
    scanHigh (scanning 0 .up 992) < (992 : Int) + scanStepSize (scanning 0 .up 992) ∧
    scanLow (scanning 0 .down 992) ≤ (992 : Int) - scanStepSize (scanning 0 .down 992) ∧
    (991 : Int) - scanStepSize (scanning 0 .down 991) < scanLow (scanning 0 .down 991) ∧
    endPolicy (scanning 0 .up 992) = 0 ∧ endPolicy (scanning 1 .up 992) = 1 ∧ endPolicy (scanning 2 .up 992) = 2 := by
  decide +kernel

theorem test_met_CaptureBeginEffect :
    captureCandidate (enterCrossing running) = none ∧
    captureCandidate (enterCrossing { running with queue := (waiting 255).queue }) ≠ none ∧ TimerWhole running ∧
    EnteredAt (waiting 255) ⟨1001, 501, 7⟩ formed ∧ formed.captureActed = false ∧ (waiting 255).capture = none ∧
    (waiting 255).queue.entries = [entry 7 748] ∧ (∀ i ∈ (entry 7 748).intake, i < 1001) ∧
    findWindow (waiting 255).windows 0 = none ∧ (waiting 256).queue.entries = [entry 7 747] := by decide +kernel

theorem test_met_CaptureCopies :
    lastColumnNext (enterCrossing running) = false ∧
    lastColumnNext (enterCrossing { running with capture := some ⟨1, 6⟩, windows := [window 1 .filling] }) = true ∧
    EnteredAt { entered with capture := some ⟨1, 6⟩, windows := [window 1 .filling] } ⟨1001, 501, 7⟩ formed ∧
    findWindow [window 1 .filling] 1 = some (window 1 .filling) ∧
    (window 1 .filling).pre + 1 + (window 1 .filling).post = 6 + 1 ∧
    (([window 1 .filling].map fun x => x.slot).Nodup ∧ (window 1 .filling).state = .filling ∧
      6 < (window 1 .filling).pre + 1 + (window 1 .filling).post ∧ (window 1 .filling).pre = 2) := by decide +kernel

/-- Event 43 waiting beside `ring` descriptors and `free` payload words. -/
def beginning (late : Bool) (ring free : Nat) : State :=
  { occupied .off 0 ring free with windows := [{ window 0 .full with late := late }] }

theorem test_met_ReconstructionBeginEffect :
    looksForEvent (enterCrossing running) = true ∧ TimerWhole running ∧
    looksForEvent (enterCrossing { running with recon := some { building with channel := 3 } }) = false ∧
    64 ≤ (beginning false 64 60).buffer.ring.length ∧ earliestFull running.windows = none ∧
    EnteredAt (beginning false 63 60) ⟨1001, 501, 7⟩ formed ∧ formed.reconstructionLooked = false ∧
    (beginning false 63 60).recon = none ∧ (beginning false 63 60).buffer.ring.length < 64 ∧
    earliestFull (beginning false 63 60).windows = some (window 0 .full) ∧
    4 + 8 * (3 + (7 + 1) / 2) ≤ 8192 - (beginning false 63 60).buffer.wordsInUse ∧
    8192 - (beginning false 63 59).buffer.wordsInUse < 4 + 8 * (3 + (7 + 1) / 2) ∧
    earliestFull (beginning true 0 0).windows = some { window 0 .full with late := true } := by decide +kernel

theorem test_met_ChannelPlaced :
    EnteredAt { completing with timer := entered.timer } ⟨1001, 501, 7⟩ formed ∧ formed.reconstructionLooked = false ∧
    completing.recon = some building ∧ findWindow completing.windows building.slot = some (window 0 .inUse) ∧
    completing.buffer.ring = [descriptor 42 .ready (some ⟨8144, 26⟩)]
      ++ [{ descriptor 43 .building (some ⟨8170, 60⟩) with testMatch := some ⟨316, 1⟩ }] ∧
    (∀ c ∈ completing.capture, c.slot ≠ building.slot) ∧ building.phase = .first ∧ building.channel = 7 ∧
    { building with channel := 6 }.channel ≠ 7 := by decide

theorem test_met_PulseArithmetic :
    (∀ i, i < 5 → (cellAt window68 0 (window68.tapStart + i)).usable = true) ∧
    ¬ (∀ i, i < 5 → (cellAt window68 1 (window68.tapStart + i)).usable = true) ∧
    (reconstructChannel (snapshot66 8) window68 1).cls = .fault := by decide +kernel

theorem test_met_FragmentWords :
    window67.present.get 0 = true ∧ window67.present.get 1 = false ∧
    (reconstructChannel (snapshot66 8) window67 0).cls = .quiet ∧ (snapshot66 8).keepAll = false ∧
    (window67.rawForced || (snapshot66 8).rawAlways) = false ∧
    (reconstructChannel (snapshot66 2) window67 0).cls ≠ .quiet := by decide +kernel

theorem test_met_ReconstructionCompleteEffect :
    (∀ b, running.recon = some b → b.phase ≠ .due ∧
      (b.channel ≠ 7 ∨ b.phase ≠ .first ∨ ∃ f, running.timer.forming = some f ∧ f.reconstructionLooked = true)) ∧
    (completing.recon = some building ∧ building.channel = 7 ∧ building.phase = .first ∧ completing.timer.forming = none) ∧
    (entered.timer.forming = some formed ∧ formed.reconstructionLooked = false) ∧
    findWindow completing.windows building.slot = some (window 0 .inUse) := by
  refine ⟨fun b h => (by cases h), ⟨rfl, rfl, rfl, rfl⟩, ⟨rfl, rfl⟩, by decide⟩

theorem test_met_PayloadPlacement :
    Memory.wf (fun _ => (0 : Word)) buffer78.words = true ∧ (List.replicate 31 (1 : Word)).length ≤ 8192 ∧
    (8170 + 22) % 8192 = 0 := by decide

theorem test_met_DrainCompleteEffect :
    (inState .stopping running).run.state = .stopping ∧ ChainEmpty (inState .stopping running) ∧
    ¬ ChainEmpty (inState .stopping completing) := by decide

theorem test_met_RequestsFollowDueEvents :
    running.timer.forming = none ∧ entered.timer.forming = some formed ∧
    (encodeControlRequest .start).isSome = true ∧ running.control.response = none ∧
    (encodeReadoutRequest .fetch).isSome = true ∧ running.readout.response = none ∧ NothingDue running := by decide +kernel

theorem test_met_ResponseEndEffect :
    (Port.mk (some (.words [])) false none none).response = some (.words []) ∧
    (Port.mk (some (.stream ⟨5, 17, 3, 3, .stored 0, true, false⟩)) false (some ⟨3, 1⟩) none).response
      = some (.stream ⟨5, 17, 3, 3, .stored 0, true, false⟩) ∧ running.readout.response = none := by decide

theorem test_met_RequestsRefused :
    encodeReadoutRequest .fetch = some 0x10000000#32 ∧ encodeControlRequest .start = some (0x30000000#32, none) ∧
    (streaming (.stored 0) 0 false).readout.response ≠ none ∧
    (∀ o ∈ (some ⟨3, 255⟩ : Option Overrun), o.count ≤ 255) := by decide

/-- A ring whose oldest descriptor is in a state. -/
def oldestIs (x : DescriptorState) : State := { running with buffer := ⟨[descriptor 40 x (some ⟨8120, 24⟩)], [], 8144, 24⟩ }

theorem test_met_FetchAnswers :
    ReadoutReady running ∧ running.buffer.ring = [] ∧ ReadoutReady (oldestIs .building) ∧ ReadoutReady (oldestIs .ready) ∧
    (∀ x, (oldestIs x).buffer.ring = [descriptor 40 x (some ⟨8120, 24⟩)] ∧ (descriptor 40 x none).state = x) := by
  refine ⟨by decide +kernel, rfl, by decide +kernel, by decide +kernel, fun x => ⟨rfl, rfl⟩⟩

theorem test_met_ReleaseAnswers :
    ReadoutReady (oldestIs .sent) ∧ (oldestIs .sent).buffer.ring.map (fun d => (d.state, d.epoch, d.event)) = [(.sent, 5, 40)] ∧
    (oldestIs .ready).buffer.ring.map (fun d => decide (d.state ≠ .sent)) = [true] := by decide +kernel

/-- What StatusAnswers, RequestsRefused, FaultRequestEffects, ReadFaultsAnswers, ScanEffects, FreezeAnswers and RestartEffect ask
of a state. -/
theorem test_met_ControlReady : ControlReady running ∧ ControlReady frozen ∧ ReadoutReady frozen := by decide +kernel

theorem test_met_WriteItemAnswers :
    itemRow 73 = none ∧ itemRow 0 = none ∧
    ((itemRow 1).map fun r => (r.scope, r.enumerated, r.low, r.high)) = some (.perChannel, true, 0, 3) ∧
    ((itemRow 1).bind fun r => itemArgument r 8) = none ∧ ((itemRow 1).bind fun r => itemArgument r 7) = some 15 ∧
    ((itemRow 48).map fun r => (r.scope, r.enumerated, r.low, r.high)) = some (.global, false, 256, 4096) ∧
    ((itemRow 48).bind fun r => itemArgument r 65535) = some 384 ∧
    ((itemRow 51).map fun r => r.scope) = some .windowGroup ∧ running.settings.take = .none ∧ StoresCanonical running ∧
    before103.settings.take = .scheduled := by decide +kernel

theorem test_met_SettingsReadsAndCancel :
    ControlReady before103 ∧ itemRow 24 = none ∧ ((itemRow 32).bind fun r => itemArgument r 4) = none ∧
    ((itemRow 32).bind fun r => itemArgument r 3) = some 259 := by decide +kernel

theorem test_met_TakeAnswers :
    ControlReady before103 ∧ before103.settings.take = .scheduled ∧
    running.settings.take = .none ∧ running.settings.touched = [] ∧
    (∃ item ∈ (inState .run (pendingWith [(384, 3200)] [384])).settings.touched, item / 8 = 48) ∧
    (consistencyConditions (producedSet (pendingWith [(384, 256)] [384]).settings))[4]? = some false ∧
    (∀ j, j < 4 → (consistencyConditions (producedSet (pendingWith [(384, 256)] [384]).settings))[j]? = some true) ∧
    (∀ k, k < 7 → (consistencyConditions (producedSet (pendingWith [(384, 3200)] [384]).settings))[k]? = some true) ∧
    ControlReady (pendingWith [(384, 3200)] [384]) := by decide +kernel

theorem test_met_StartAnswers :
    ControlReady (inState .idle running) ∧ (inState .idle running).timer.sync = .synced ∧
    (inState .idle running).pipeline.frozen = false ∧ (inState .idle running).settings.take = .none ∧
    ControlReady State.reset ∧ State.reset.timer.sync = .unsynced ∧ frozen.pipeline.frozen = true ∧
    (inState .idle before103).settings.take = .scheduled ∧ running.run.state ≠ .idle := by decide +kernel

theorem test_met_StopAnswers :
    (∀ r, r ≠ .stopping → ControlReady (inState r running) ∧ ChainEmpty (inState r running)) ∧
    ControlReady (inState .stopping completing) ∧ ¬ ChainEmpty (inState .lost completing) := by
  refine ⟨fun r h => ?_, by decide +kernel, by decide⟩
  cases r <;> first | exact absurd rfl h | decide +kernel

theorem test_met_PipelineReadsAnswer :
    ControlReady frozen ∧ 256 ≤ (256#11).toNat ∧ (255#11).toNat < 256 ∧ 8 ≤ (8#16).toNat ∧
    frozen.inputs.pairs = none ∧ frozen.pipeline.head = some 1000 ∧
    storedColumn { frozen.pipeline with columns := [(233, ⟨Column.empty, some 745⟩)] } ((1000 - 255) % 256)
      = ⟨Column.empty, some 745⟩ := by decide +kernel

theorem test_met_WriteCellAnswers :
    ControlReady frozen ∧ StoresCanonical frozen ∧ (255#11).toNat < 256 ∧ decodeCellWord 0x0c830000#32 = some ⟨.off, 0, .high, none⟩ ∧
    decodeCellWord 0x0c850000#32 = none ∧ (7#16).toNat = (7 : Channel).val ∧ running.pipeline.frozen = false := by
  decide +kernel

theorem test_met_UnitReadsAnswer :
    (3#11).toNat = (3 : Fin 4).val ∧ 4 ≤ (4#11).toNat ∧ findWindow completing.windows 0 = some (window 0 .inUse) ∧
    findWindow completing.windows 3 = none ∧ 64 ≤ (64#11).toNat ∧ completing.buffer.ring[63]? = none ∧
    (8191#16).toNat < 8192 ∧ 8192 ≤ (8192#16).toNat ∧ completing.buffer.fillPoint < 8192 ∧
    completing.buffer.wordsInUse ≤ 8192 ∧ ControlReady completing := by decide +kernel

theorem test_met_DiagnosticAcceptAnswers :
    ControlReady frozen ∧ (4#11).toNat = windowPost frozen ∧ (253#11).toNat + windowPre frozen = 255 ∧
    255 < (254#11).toNat + windowPre frozen ∧ (3#11).toNat < windowPost frozen ∧ frozen.queue.entries.length < 16 ∧
    16 ≤ { frozen with queue := ⟨List.replicate 16 (entry 1 900), 0, 0⟩ }.queue.entries.length := by decide +kernel

end Sys2Proof.Tests
end

section
/-! SUPPORT. What every step keeps: a property that does not read the timer is kept by every step when the operations the commands
are made of keep it. The induction over commands is made here once. -/

namespace Sys2Proof.Machine

/-! ### The operations the commands are made of -/

/-- What opening a crossing does after what is due: the index, the ageing of the Injection List, no charge (R21, R178). -/
def beginForming (s : State) : State :=
  let p := nextPosition s.timer.position
  let u := s.setTimer { s.timer with position := some p, forming := some Forming.fresh }
  u.setInjection { u.injection with fires := agedFires u.injection.fires p.index, charge := Oct.all none }

theorem openCrossing_eq (s : State) :
    openCrossing s = if isForming s then s else beginForming (settle s) := rfl

@[simp] theorem beginForming_frame (s : State) :
    (beginForming s).run = s.run ∧ (beginForming s).trigger = s.trigger ∧ (beginForming s).inputs = s.inputs ∧
    (beginForming s).pipeline = s.pipeline ∧ (beginForming s).towers = s.towers ∧ (beginForming s).queue = s.queue ∧
    (beginForming s).capture = s.capture ∧ (beginForming s).windows = s.windows ∧ (beginForming s).recon = s.recon ∧
    (beginForming s).buffer = s.buffer ∧ (beginForming s).readout = s.readout ∧ (beginForming s).control = s.control ∧
    (beginForming s).settings = s.settings ∧ (beginForming s).tracker = s.tracker ∧ (beginForming s).monitor = s.monitor ∧
    (beginForming s).pending = s.pending := by
  dsimp only [beginForming]; simp

@[simp] theorem fetchOldest_frame (s : State) :
    (fetchOldest s).1.timer = s.timer ∧ (fetchOldest s).1.run = s.run ∧ (fetchOldest s).1.trigger = s.trigger ∧
    (fetchOldest s).1.inputs = s.inputs ∧ (fetchOldest s).1.pipeline = s.pipeline ∧ (fetchOldest s).1.towers = s.towers ∧
    (fetchOldest s).1.queue = s.queue ∧ (fetchOldest s).1.capture = s.capture ∧ (fetchOldest s).1.windows = s.windows ∧
    (fetchOldest s).1.recon = s.recon ∧ (fetchOldest s).1.readout = s.readout ∧ (fetchOldest s).1.control = s.control ∧
    (fetchOldest s).1.settings = s.settings ∧ (fetchOldest s).1.tracker = s.tracker ∧
    (fetchOldest s).1.injection = s.injection ∧ (fetchOldest s).1.monitor = s.monitor ∧
    (fetchOldest s).1.pending = s.pending := by
  dsimp only [fetchOldest]; (repeat' split) <;> simp

@[simp] theorem releaseOldest_frame (epoch : BitVec 4) (event : BitVec 24) (s : State) :
    (releaseOldest epoch event s).1.timer = s.timer ∧ (releaseOldest epoch event s).1.run = s.run ∧
    (releaseOldest epoch event s).1.trigger = s.trigger ∧ (releaseOldest epoch event s).1.inputs = s.inputs ∧
    (releaseOldest epoch event s).1.pipeline = s.pipeline ∧ (releaseOldest epoch event s).1.towers = s.towers ∧
    (releaseOldest epoch event s).1.queue = s.queue ∧ (releaseOldest epoch event s).1.capture = s.capture ∧
    (releaseOldest epoch event s).1.windows = s.windows ∧ (releaseOldest epoch event s).1.recon = s.recon ∧
    (releaseOldest epoch event s).1.readout = s.readout ∧ (releaseOldest epoch event s).1.control = s.control ∧
    (releaseOldest epoch event s).1.settings = s.settings ∧ (releaseOldest epoch event s).1.tracker = s.tracker ∧
    (releaseOldest epoch event s).1.injection = s.injection ∧ (releaseOldest epoch event s).1.monitor = s.monitor ∧
    (releaseOldest epoch event s).1.pending = s.pending := by
  dsimp only [releaseOldest]; (repeat' split) <;> simp

/-- `P` is kept by every operation the commands are made of. Where `P` speaks of one block, the frame lemmas give the operations
that leave the block alone, so that each use names only those that change it. -/
structure KeptByOperations (P : State → Prop) : Prop where
  powerOnReset (s : State) : P s → P (State.reset.setPending s.pending)
  restartPart (s : State) : P s → P (restartPart s)
  setPending (s : State) (v) : P s → P (s.setPending v) := by simp
  setTimer (s : State) (v) : P s → P (s.setTimer v) := by simp
  report (c : Cause) (s : State) : P s → P (report c s) := by simp
  killChannel (ch : Channel) (s : State) : P s → P (killChannel ch s) := by simp
  formCandidate (ch : Channel) (g : Gain) (s : State) : P s → P (formCandidate ch g s) := by simp
  stepScan (s : State) : P s → P (stepScan s) := by simp
  drain (s : State) : P s → P (drain s) := by simp
  completeEvent (s : State) : P s → P (completeEvent s) := by simp
  beginForming (s : State) : P s → P (beginForming s) := by simp
  applyTake (s : State) : P s → P (applyTake s) := by simp
  installCandidate (ch : Channel) (g : Gain) (s : State) : P s → P (installCandidate ch g s) := by simp
  countGeneration (m) (s : State) : P s → P (countGeneration m s) := by simp
  startingRunBegins (s : State) : P s → P (startingRunBegins s) := by simp
  endResponse (l : RequestLink) (s : State) : P s → P (endResponse l s) := by simp
  deliverPairs (pairs) (s : State) : P s → P (deliverPairs pairs s) := by simp
  writeColumn (pairs) (s : State) : P s → P (writeColumn pairs s) := by simp
  updateTowers (s : State) : P s → P (updateTowers s) := by simp
  accumulatePedestals (pairs) (s : State) : P s → P (accumulatePedestals pairs s) := by simp
  beginCapture (s : State) : P s → P (beginCapture s) := by simp
  beginReconstruction (s : State) : P s → P (beginReconstruction s) := by simp
  copyColumn (s : State) : P s → P (copyColumn s) := by simp
  advanceReconstruction (s : State) : P s → P (advanceReconstruction s) := by simp
  sendWords (s : State) : P s → P (sendWords s) := by simp
  sendUplink (s : State) : P s → P (sendUplink s) := by simp
  takeMarker (s : State) : P s → P (takeMarker s) := by simp
  takeAccept (s : State) : P s → P (takeAccept s) := by simp
  fireTest (s : State) : P s → P (fireTest s) := by simp
  takeResync (s : State) : P s → P (takeResync s) := by simp
  takeLinkError (s : State) : P s → P (takeLinkError s) := by simp
  readoutOverrun (code : Nat) (s : State) : P s → P (s.setReadout (s.readout.overrunBy code)) := by simp
  readoutRespond (b : Bool) (r) (s : State) : P s → P (s.setReadout (s.readout.respond b r)) := by simp
  fetchOldest (s : State) : P s → P (fetchOldest s).1 := by simp
  releaseOldest (epoch event) (s : State) : P s → P (releaseOldest epoch event s).1 := by simp
  controlOverrun (code : Nat) (s : State) : P s → P (s.setControl (s.control.overrunBy code)) := by simp
  controlRespond (b : Bool) (r) (s : State) : P s → P (s.setControl (s.control.respond b r)) := by simp
  writeItem (number index value) (s : State) :
    P s → P (s.setSettings (writeItemValue number index value s.settings).1) := by simp
  scheduleTake (s : State) : P s → P (scheduleTake s) := by simp
  cancelScheduled (s : State) : P s → P (cancelScheduled s) := by simp
  startRun (s : State) : P s → P (startRun s) := by simp
  stopRun (s : State) : P s → P (stopRun s) := by simp
  reviveChannel (ch : Channel) (s : State) : P s → P (reviveChannel ch s) := by simp
  clearCauses (x) (s : State) : P s → P (clearCauses x s) := by simp
  setEnables (x) (s : State) : P s → P (setEnables x s) := by simp
  clearCounts (s : State) : P s → P (clearCounts s) := by simp
  startScan (s : State) : P s → P (startScan s) := by simp
  stopScan (s : State) : P s → P (stopScan s) := by simp
  freezePipeline (s : State) : P s → P (freezePipeline s) := by simp
  unfreezePipeline (s : State) : P s → P (unfreezePipeline s) := by simp
  writeCell (a ch x) (s : State) : P s → P (writeCell a ch x s) := by simp
  diagnosticIntake (a : Nat) (s : State) : P s → P (diagnosticIntake a s) := by simp

/-- A fold of updates that each keep `P` keeps `P`. -/
theorem foldl_keeps {β : Type} {P : State → Prop} {f : State → β → State} (h : ∀ s b, P s → P (f s b)) (l : List β)
    {s : State} (hs : P s) : P (l.foldl f s) := by
  induction l generalizing s with
  | nil => exact hs
  | cons b l ih => exact ih (h s b hs)

namespace KeptByOperations

variable {P : State → Prop}

/-! ### What is due, and the crossing -/

theorem killChannels (K : KeptByOperations P) {s : State} (hs : P s) : P (killChannels s) :=
  foldl_keeps (fun s (ch : Channel) => K.killChannel ch s) channels hs

theorem formCandidates (K : KeptByOperations P) {s : State} (hs : P s) : P (formCandidates s) :=
  foldl_keeps (fun s (p : Channel × Gain) => K.formCandidate p.1 p.2 s) trackerPlaces hs

theorem makeDue (K : KeptByOperations P) {s : State} (hs : P s) : P (makeDue s) :=
  K.stepScan _ (K.formCandidates (K.killChannels hs))

theorem settleRequest (K : KeptByOperations P) {s : State} (hs : P s) : P (settleRequest s) :=
  K.drain _ (K.makeDue hs)

theorem completeDue (K : KeptByOperations P) {s : State} (hs : P s) : P (completeDue s) := by
  unfold Machine.completeDue
  split
  · exact K.completeEvent s hs
  · exact hs

theorem settle (K : KeptByOperations P) {s : State} (hs : P s) : P (settle s) :=
  K.drain _ (K.completeDue (K.makeDue hs))

theorem openCrossing (K : KeptByOperations P) {s : State} (hs : P s) : P (openCrossing s) := by
  rw [openCrossing_eq]
  split
  · exact hs
  · exact K.beginForming _ (K.settle hs)

theorem updateForming (K : KeptByOperations P) (f : Forming → Forming) {s : State} (hs : P s) : P (updateForming f s) :=
  K.setTimer s _ hs

theorem formNumber (K : KeptByOperations P) {s : State} (hs : P s) : P (formNumber s) := by
  unfold Machine.formNumber
  split
  · split
    · exact hs
    · exact K.setTimer s _ hs
  · exact hs

theorem installCandidates (K : KeptByOperations P) {s : State} (hs : P s) : P (installCandidates s) :=
  foldl_keeps (fun s (p : Channel × Gain) => K.installCandidate p.1 p.2 s) trackerPlaces hs

theorem settingsBoundary (K : KeptByOperations P) {s : State} (hs : P s) : P (settingsBoundary s) :=
  K.countGeneration _ _ (K.installCandidates (K.applyTake s hs))

theorem takeBoundary (K : KeptByOperations P) {s : State} (hs : P s) : P (takeBoundary s) := by
  unfold Machine.takeBoundary
  split
  · split
    · exact K.setTimer _ _ (K.startingRunBegins _ (K.settingsBoundary hs))
    · exact hs
  · exact hs

theorem enterCrossing (K : KeptByOperations P) {s : State} (hs : P s) : P (enterCrossing s) :=
  K.takeBoundary (K.formNumber (K.openCrossing hs))

theorem takeFrame (K : KeptByOperations P) {effect : State → State} (he : ∀ s, P s → P (effect s)) {s : State}
    (hs : P s) : P (takeFrame effect s) := by
  unfold Machine.takeFrame
  split
  · exact hs
  · exact he _ (K.updateForming _ (K.enterCrossing hs))

theorem reportTowers (K : KeptByOperations P) {s : State} (hs : P s) : P (reportTowers s) := by
  refine foldl_keeps (fun u t hu => ?_) _ hs
  unfold reportIf
  split
  · exact K.report _ u hu
  · exact hu

theorem sampleCrossing (K : KeptByOperations P) (pairs : Oct CodePair) {s : State} (hs : P s) :
    P (sampleCrossing pairs s) :=
  K.accumulatePedestals _ _ (K.reportTowers (K.updateTowers _ (K.writeColumn _ _ (K.deliverPairs _ _ hs))))

theorem processEvents (K : KeptByOperations P) {s : State} (hs : P s) : P (processEvents s) :=
  K.advanceReconstruction _ (K.copyColumn _ (K.beginReconstruction _ (K.beginCapture _ hs)))

theorem startCrossing (K : KeptByOperations P) (pairs : Oct CodePair) {s : State} (hs : P s) :
    P (startCrossing pairs s) :=
  K.setTimer _ _ (K.sendUplink _ (K.drain _ (K.sendWords _ (K.processEvents (K.sampleCrossing pairs
    (K.endResponse _ _ (K.endResponse _ _ (K.enterCrossing hs))))))))

/-! ### Requests -/

theorem readoutRequest (K : KeptByOperations P) (code : Nat) {execute : State → State × Response}
    (he : ∀ s, P s → P (execute s).1) {s : State} (hs : P s) : P (readoutRequest code execute s) := by
  unfold Machine.readoutRequest
  split
  · exact K.report _ _ (K.readoutOverrun code s hs)
  · exact K.readoutRespond _ _ _ (he _ (K.settleRequest hs))

theorem controlRequest (K : KeptByOperations P) (code : Nat) {execute : State → State × Reply}
    (he : ∀ s, P s → P (execute s).1) {s : State} (hs : P s) : P (controlRequest code execute s) := by
  unfold Machine.controlRequest
  split
  · exact K.report _ _ (K.controlOverrun code s hs)
  · exact K.controlRespond _ _ _ (he _ (K.settleRequest hs))

theorem reviveEffect (K : KeptByOperations P) (channel : BitVec 16) {s : State} (hs : P s) :
    P (reviveEffect channel s).1 := by
  unfold Machine.reviveEffect
  split
  · exact K.reviveChannel _ s hs
  · exact hs

theorem writeCellEffect (K : KeptByOperations P) (age : BitVec 11) (channel : BitVec 16) (cell : Word) {s : State}
    (hs : P s) : P (writeCellEffect age channel cell s).1 := by
  unfold Machine.writeCellEffect
  split
  · exact hs
  · split
    · exact K.writeCell _ _ _ s hs
    · exact hs

/-! ### Commands and steps -/

/-- Every command keeps what its operations keep. -/
theorem exec (K : KeptByOperations P) (c : Instr) {s : State} (hs : P s) : ∃ t, exec c s = .next t ∧ P t := by
  cases c with
  | powerOnReset => exact ⟨_, rfl, K.powerOnReset s hs⟩
  | crossingStart pairs => exact ⟨_, rfl, K.startCrossing pairs hs⟩
  | turnBoundary =>
    refine ⟨_, rfl, ?_⟩
    split
    · exact K.takeBoundary (K.formNumber (K.openCrossing hs))
    · exact hs
  | noneCommand => exact ⟨_, rfl, hs⟩
  | accept => exact ⟨_, rfl, K.takeFrame K.takeAccept hs⟩
  | turnMarker =>
    refine ⟨_, rfl, ?_⟩
    split
    · exact hs
    · exact K.takeMarker _ (K.openCrossing hs)
  | testFire => exact ⟨_, rfl, K.takeFrame K.fireTest hs⟩
  | resync => exact ⟨_, rfl, K.takeFrame K.takeResync hs⟩
  | linkError frame => exact ⟨_, rfl, K.takeFrame K.takeLinkError hs⟩
  | autoKill ch => exact ⟨_, rfl, K.killChannel ch s hs⟩
  | pedestalCandidate ch gain => exact ⟨_, rfl, K.formCandidate ch gain s hs⟩
  | injectionRecordAgeOut =>
    refine ⟨_, rfl, ?_⟩
    split
    · exact K.openCrossing hs
    · exact hs
  | scanStep => exact ⟨_, rfl, K.stepScan s hs⟩
  | captureBegin =>
    refine ⟨_, rfl, ?_⟩
    split
    · exact K.beginCapture _ (K.enterCrossing hs)
    · exact hs
  | captureComplete =>
    refine ⟨_, rfl, ?_⟩
    split
    · exact K.updateForming _ (K.copyColumn _ (K.enterCrossing hs))
    · exact hs
  | reconstructionBegin =>
    refine ⟨_, rfl, ?_⟩
    split
    · exact K.beginReconstruction _ (K.enterCrossing hs)
    · exact hs
  | reconstructionComplete =>
    refine ⟨_, rfl, ?_⟩
    split
    · exact K.completeEvent s hs
    · split
      · exact K.completeEvent _ (K.openCrossing hs)
      · exact hs
  | drainComplete => exact ⟨_, rfl, K.drain s hs⟩
  | responseEnd link =>
    refine ⟨_, rfl, ?_⟩
    split
    · exact K.endResponse _ _ (K.openCrossing hs)
    · exact hs
  | fetch => exact ⟨_, rfl, K.readoutRequest _ K.fetchOldest hs⟩
  | release epoch event => exact ⟨_, rfl, K.readoutRequest _ (K.releaseOldest epoch event) hs⟩
  | status => exact ⟨_, rfl, K.readoutRequest _ (fun _ h => h) hs⟩
  | readoutUnassigned code => exact ⟨_, rfl, K.readoutRequest _ (fun _ h => h) hs⟩
  | writeItem item index value => exact ⟨_, rfl, K.controlRequest _ (K.writeItem _ _ _) hs⟩
  | readItem item index wantsPending => exact ⟨_, rfl, K.controlRequest _ (fun _ h => h) hs⟩
  | take => exact ⟨_, rfl, K.controlRequest _ K.scheduleTake hs⟩
  | cancelTake => exact ⟨_, rfl, K.controlRequest _ K.cancelScheduled hs⟩
  | readTakeState => exact ⟨_, rfl, K.controlRequest _ (fun _ h => h) hs⟩
  | start => exact ⟨_, rfl, K.controlRequest _ K.startRun hs⟩
  | stop => exact ⟨_, rfl, K.controlRequest _ K.stopRun hs⟩
  | restart => exact ⟨_, rfl, K.controlRequest _ K.restartPart hs⟩
  | revive channel => exact ⟨_, rfl, K.controlRequest _ (fun _ => K.reviveEffect channel) hs⟩
  | readFaults => exact ⟨_, rfl, K.controlRequest _ (fun _ h => h) hs⟩
  | clearCauses causes => exact ⟨_, rfl, K.controlRequest _ (K.clearCauses _) hs⟩
  | setEnables causes => exact ⟨_, rfl, K.controlRequest _ (K.setEnables _) hs⟩
  | clearCounts => exact ⟨_, rfl, K.controlRequest _ K.clearCounts hs⟩
  | scanStart => exact ⟨_, rfl, K.controlRequest _ K.startScan hs⟩
  | scanStop => exact ⟨_, rfl, K.controlRequest _ K.stopScan hs⟩
  | freeze => exact ⟨_, rfl, K.controlRequest _ K.freezePipeline hs⟩
  | unfreeze => exact ⟨_, rfl, K.controlRequest _ K.unfreezePipeline hs⟩
  | peekInput channel => exact ⟨_, rfl, K.controlRequest _ (fun _ h => h) hs⟩
  | readCell age channel => exact ⟨_, rfl, K.controlRequest _ (fun _ h => h) hs⟩
  | writeCell age channel cell => exact ⟨_, rfl, K.controlRequest _ (fun _ => K.writeCellEffect age channel cell) hs⟩
  | readColumn age => exact ⟨_, rfl, K.controlRequest _ (fun _ h => h) hs⟩
  | readWindowSlot slot => exact ⟨_, rfl, K.controlRequest _ (fun _ h => h) hs⟩
  | readDescriptor index => exact ⟨_, rfl, K.controlRequest _ (fun _ h => h) hs⟩
  | readPayload word => exact ⟨_, rfl, K.controlRequest _ (fun _ h => h) hs⟩
  | readTracker channel => exact ⟨_, rfl, K.controlRequest _ (fun _ h => h) hs⟩
  | diagnosticAccept age => exact ⟨_, rfl, K.controlRequest _ (K.diagnosticIntake _) hs⟩
  | controlUnassigned code => exact ⟨_, rfl, K.controlRequest _ (fun _ h => h) hs⟩

/-- Every step keeps what the operations of the commands keep. -/
theorem step (K : KeptByOperations P) {s t : State} (hs : P s) (h : step s = .next t) : P t := by
  cases hq : s.pending with
  | nil =>
    rw [step_nil hq] at h
    cases h
    exact hs
  | cons c rest =>
    rw [step_cons hq] at h
    obtain ⟨u, hu, hP⟩ := K.exec c (K.setPending s rest hs)
    rw [hu] at h
    cases h
    exact hP

end KeptByOperations

end Sys2Proof.Machine
end

section
/-! The addressed stores stay canonical, block by block: the Sample Pipeline, the Payload Store, the setting sets. -/

namespace Sys2Proof.Machine

/-! ### The Sample Pipeline -/

/-- The column slots are canonical and lie in the pipeline (R11; log 16). -/
def ColumnsCanonical (m : List (Nat × StoredColumn)) : Prop :=
  Memory.wf (fun _ => StoredColumn.empty) m = true ∧ ∀ e ∈ m, e.1 < Config.pipelineDepth

theorem columnsCanonical_nil : ColumnsCanonical [] := ⟨rfl, by simp⟩

theorem columnSlot_lt (x : Int) : columnSlot x < Config.pipelineDepth := by
  unfold columnSlot Config.pipelineDepth
  omega

/-- A column written in a slot of the pipeline keeps the slots canonical. -/
theorem ColumnsCanonical.write {m : List (Nat × StoredColumn)} (h : ColumnsCanonical m) {slot : Nat}
    (hslot : slot < Config.pipelineDepth) (c : StoredColumn) :
    ColumnsCanonical (Memory.write (fun _ => StoredColumn.empty) m slot c) := by
  refine ⟨Memory.wf_write _ _ h.1, fun e he => ?_⟩
  rcases Memory.mem_write he with ⟨rfl, _⟩ | hm
  · exact hslot
  · exact h.2 e hm

theorem writeCellSlot_lt (s : State) (a : Nat) : writeCellSlot s a < Config.pipelineDepth := by
  unfold writeCellSlot
  split
  · exact columnSlot_lt _
  · exact columnSlot_lt _

theorem columnsCanonical_kept : KeptByOperations fun s => ColumnsCanonical s.pipeline.columns where
  powerOnReset _ _ := columnsCanonical_nil
  restartPart _ _ := columnsCanonical_nil
  writeColumn pairs s h := by
    unfold writeColumn
    split
    · exact h
    · split
      · exact h
      · simpa [pipelineAfter] using h.write (columnSlot_lt _) _
  freezePipeline s h := by
    unfold freezePipeline
    split
    · exact h
    · exact h
  unfreezePipeline s h := by
    unfold unfreezePipeline
    split
    · exact h
    · exact h
  writeCell a ch x s h := h.write (writeCellSlot_lt s a) _

/-! ### The Payload Store -/

/-- The payload words are canonical and lie in the store (R119; log 16). -/
def PayloadCanonical (m : List (Nat × Word)) : Prop :=
  Memory.wf (fun _ => (0 : Word)) m = true ∧ ∀ e ∈ m, e.1 < Config.payloadWords

/-- Words placed in the Payload Store lie in it (R119). -/
theorem mem_placeWords_lt {m : List (Nat × Word)} (h : ∀ e ∈ m, e.1 < Config.payloadWords) (i : Nat) (ws : List Word) :
    ∀ e ∈ placeWords m i ws, e.1 < Config.payloadWords := by
  induction ws generalizing m i with
  | nil => exact h
  | cons w ws ih =>
    refine ih (fun e he => ?_) _
    rcases Memory.mem_write he with ⟨rfl, _⟩ | hm
    · exact Nat.mod_lt _ (by decide)
    · exact h e hm

theorem PayloadCanonical.place {m : List (Nat × Word)} (h : PayloadCanonical m) (i : Nat) (ws : List Word) :
    PayloadCanonical (placeWords m i ws) :=
  ⟨placeWords_wf h.1 i ws, mem_placeWords_lt h.2 i ws⟩

@[simp] theorem removeNewest_words (b : EventBuffer) : (removeNewest b).words = b.words := by
  unfold removeNewest
  split
  · rfl
  · split <;> rfl

@[simp] theorem abandonEvent_words (s : State) : (abandonEvent s).buffer.words = s.buffer.words := by
  unfold abandonEvent
  split <;> simp

@[simp] theorem takeResync_words (s : State) : (takeResync s).buffer.words = s.buffer.words := by
  unfold takeResync
  split <;> simp [discardWork]

@[simp] theorem beginEvent_words (w : Window) (s : State) : (beginEvent w s).buffer.words = s.buffer.words := by
  unfold beginEvent
  split
  · simp [endAtOnce]
  · split
    · simp [beginBuilding]
    · simp [endAtOnce]

@[simp] theorem beginReconstruction_words (s : State) : (beginReconstruction s).buffer.words = s.buffer.words := by
  unfold beginReconstruction
  split
  · split <;> simp
  · rfl

@[simp] theorem fetchOldest_words (s : State) : (fetchOldest s).1.buffer.words = s.buffer.words := by
  unfold fetchOldest
  split
  · rfl
  · split <;> rfl

@[simp] theorem releaseOldest_words (epoch : BitVec 4) (event : BitVec 24) (s : State) :
    (releaseOldest epoch event s).1.buffer.words = s.buffer.words := by
  unfold releaseOldest
  split
  · rfl
  · split
    · rfl
    · split <;> rfl

/-- A completion places the records of channel 7 and the header, or changes no word (R96). -/
theorem completeEvent_words (s : State) :
    (completeEvent s).buffer.words = s.buffer.words ∨
      ∃ i ws j header, (completeEvent s).buffer.words = placeWords (placeWords s.buffer.words i ws) j header := by
  unfold completeEvent
  split
  · exact .inl rfl
  · simp only [State.setRecon_buffer, State.setWindows_buffer, State.setBuffer_buffer, completeDescriptor]
    exact .inr ⟨_, _, _, _, rfl⟩

/-- A crossing of the current event places the records of one channel, or changes no word (R95). -/
theorem advanceReconstruction_words (s : State) :
    (advanceReconstruction s).buffer.words = s.buffer.words ∨
      ∃ i ws, (advanceReconstruction s).buffer.words = placeWords s.buffer.words i ws := by
  unfold advanceReconstruction
  split
  · exact .inl rfl
  · split
    · exact .inl rfl
    · split
      · exact .inl rfl
      · split
        · exact .inl rfl
        · exact .inr ⟨_, _, rfl⟩
      · exact .inl rfl
      · exact .inl rfl

theorem payloadCanonical_kept : KeptByOperations fun s => PayloadCanonical s.buffer.words where
  powerOnReset _ _ := ⟨rfl, by simp [State.reset]⟩
  restartPart _ h := h
  completeEvent s h := by
    rcases completeEvent_words s with hw | ⟨i, ws, j, header, hw⟩
    · simpa only [hw] using h
    · simpa only [hw] using (h.place i ws).place j header
  advanceReconstruction s h := by
    rcases advanceReconstruction_words s with hw | ⟨i, ws, hw⟩
    · simpa only [hw] using h
    · simpa only [hw] using h.place i ws

/-! ### The setting sets -/

/-- Both setting sets are canonical (log 16). -/
def Settings.Canonical (x : Settings) : Prop :=
  Memory.wf catalogueDefault x.pending = true ∧ Memory.wf catalogueDefault x.active = true

/-- Values stored one after the other keep a setting set canonical. -/
theorem foldl_setItemValue_wf {β : Type} (a : β → Nat) (v : β → Int) (l : List β) {m : List (Nat × Int)}
    (h : Memory.wf catalogueDefault m = true) :
    Memory.wf catalogueDefault (l.foldl (fun m b => setItemValue m (a b) (v b)) m) = true := by
  induction l generalizing m with
  | nil => exact h
  | cons b l ih => exact ih (setItemValue_wf h _ _)

theorem producedSet_wf {x : Settings} (h : Memory.wf catalogueDefault x.active = true) :
    Memory.wf catalogueDefault (producedSet x) = true :=
  foldl_setItemValue_wf id (itemValue x.pending) _ h

theorem Settings.Canonical.storePending {x : Settings} (h : x.Canonical) (item : Nat) (values : List (Nat × Int)) :
    (storePending x item values).Canonical :=
  ⟨foldl_setItemValue_wf Prod.fst Prod.snd _ h.1, h.2⟩

/-- What WriteItem makes of the Settings Store: nothing, or values stored in the Pending Set (R158, R159). -/
theorem writeItemValue_fst_cases (number index : Nat) (value : Word) (x : Settings) :
    (writeItemValue number index value x).1 = x ∨
      ∃ item values, (writeItemValue number index value x).1 = storePending x item values := by
  unfold writeItemValue
  split
  · exact .inl rfl
  · split
    · exact .inl rfl
    · split
      · exact .inl rfl
      · split
        · exact .inr ⟨_, _, rfl⟩
        · split
          · exact .inr ⟨_, _, rfl⟩
          · split
            · exact .inl rfl
            · exact .inr ⟨_, _, rfl⟩

theorem settingsCanonical_kept : KeptByOperations fun s => s.settings.Canonical where
  powerOnReset _ _ := ⟨rfl, rfl⟩
  restartPart _ h := h
  applyTake s h := by
    unfold applyTake
    split
    · exact ⟨h.1, producedSet_wf h.2⟩
    · exact h
  installCandidate ch g s h := by
    unfold installCandidate
    dsimp only
    split
    · exact h
    · split
      · exact ⟨h.1, setItemValue_wf h.2 _ _⟩
      · exact h
  countGeneration m s h := by
    unfold countGeneration
    split
    · exact h
    · exact h
  writeItem number index value s h := by
    rcases writeItemValue_fst_cases number index value s.settings with hw | ⟨item, values, hw⟩
    · simpa [hw] using h
    · simpa [hw] using h.storePending item values
  scheduleTake s h := by
    unfold scheduleTake
    split
    · exact h
    · exact h
  cancelScheduled _ h := h

/-! ### The obligation -/

theorem storesCanonical_iff (s : State) :
    StoresCanonical s ↔
      ColumnsCanonical s.pipeline.columns ∧ PayloadCanonical s.buffer.words ∧ s.settings.Canonical := by
  unfold StoresCanonical ColumnsCanonical PayloadCanonical Settings.Canonical
  tauto

/-- Settles O4: each of the three blocks that hold an addressed store is kept canonical by every operation that writes to it. -/
theorem storesCanonicalKept : Obligations.StoresCanonicalKept := by
  intro s t hs hstep
  rw [storesCanonical_iff] at hs ⊢
  obtain ⟨hp, hb, hx⟩ := hs
  exact ⟨columnsCanonical_kept.step hp hstep, payloadCanonical_kept.step hb hstep, settingsCanonical_kept.step hx hstep⟩

end Sys2Proof.Machine
end

section
/-! The capacities and the saturating counts, block by block. -/

namespace Sys2Proof.Machine

/-! ### The Accept Queue (R71, R76) -/

@[simp] theorem startingRunBegins_entries (s : State) : (startingRunBegins s).queue.entries = s.queue.entries := by
  unfold startingRunBegins
  split
  · rfl
  · rfl

@[simp] theorem takeMarker_entries (s : State) : (takeMarker s).queue.entries = s.queue.entries := by
  unfold takeMarker
  split
  · dsimp only
    (repeat' split) <;> simp
  · rfl

/-- The fates of an accept: counted as ignored or as discarded, taken into a queue with room, or lost with AcceptOverflow; in Run
before the first crossing it changes nothing (R27, R71, R73). -/
theorem takeAccept_cases (s : State) :
    takeAccept s = s ∨ takeAccept s = countIgnored s ∨ takeAccept s = countDiscarded s ∨
      takeAccept s = loseRun (report .acceptOverflow (countDiscarded s)) ∨
      ∃ e k, s.queue.entries.length < Config.queueDepth ∧
        takeAccept s = s.setQueue { s.queue with entries := s.queue.entries ++ [e], eventCounter := k } := by
  unfold takeAccept
  cases s.run.state with
  | idle | starting | stopping => exact .inr (.inl rfl)
  | lost | resyncing => exact .inr (.inr (.inl rfl))
  | run =>
    cases currentIndex s with
    | none => exact .inl rfl
    | some n =>
      simp only [intakeAccept]
      split
      · next hlt => exact .inr (.inr (.inr (.inr ⟨_, _, hlt, rfl⟩)))
      · exact .inr (.inr (.inr (.inl rfl)))

theorem takeAccept_entries_length {s : State} (h : s.queue.entries.length ≤ Config.queueDepth) :
    (takeAccept s).queue.entries.length ≤ Config.queueDepth := by
  rcases takeAccept_cases s with he | he | he | he | ⟨e, k, hlt, he⟩ <;> rw [he]
  · exact h
  · exact h
  · exact h
  · simpa [countDiscarded] using h
  · simpa using hlt

theorem diagnosticIntake_entries_length {s : State} (a : Nat) (h : s.queue.entries.length ≤ Config.queueDepth) :
    (diagnosticIntake a s).queue.entries.length ≤ Config.queueDepth := by
  unfold diagnosticIntake
  split
  · next hr =>
    have hlt : s.queue.entries.length < Config.queueDepth := by
      by_contra hge
      unfold diagnosticReply at hr
      rw [if_pos (not_lt.mp hge)] at hr
      split at hr
      · cases hr
      · split at hr <;> cases hr
    simpa using hlt
  · exact h

/-- A capture begin finds the oldest entry of the queue and the lowest-numbered Free slot (R80). -/
theorem captureCandidate_some {s : State} {n : Nat} {e : Entry} {rest : List Entry} {slot : Fin 4}
    (h : captureCandidate s = some (n, e, rest, slot)) :
    s.queue.entries = e :: rest ∧ lowestFree s.windows = some slot := by
  unfold captureCandidate at h
  split at h
  · split at h
    · split at h
      · cases h
        exact ⟨‹_›, ‹_›⟩
      · cases h
    · cases h
  · cases h

/-- A capture begin takes the oldest entry, or leaves the queue alone (R80). -/
theorem beginCapture_entries (s : State) :
    (beginCapture s).queue.entries = s.queue.entries ∨ (beginCapture s).queue.entries = s.queue.entries.tail := by
  unfold beginCapture
  split
  · exact .inl rfl
  · next n e rest slot hc =>
    right
    rw [(captureCandidate_some hc).1]
    dsimp only
    split <;> simp

/-- A Resync empties the queue or leaves it alone (R31). -/
theorem takeResync_entries (s : State) :
    (takeResync s).queue.entries = [] ∨ (takeResync s).queue.entries = s.queue.entries := by
  unfold takeResync
  split
  · left
    simp [discardWork]
  · exact .inr rfl

theorem queueWithin_kept : KeptByOperations fun s => s.queue.entries.length ≤ Config.queueDepth where
  powerOnReset _ _ := Nat.zero_le _
  restartPart _ _ := Nat.zero_le _
  takeAccept _ := takeAccept_entries_length
  diagnosticIntake a _ := diagnosticIntake_entries_length a
  beginCapture s h := by
    rcases beginCapture_entries s with he | he
    · simpa only [he] using h
    · simp only [he, List.length_tail]
      omega
  takeResync s h := by
    rcases takeResync_entries s with he | he
    · simp [he]
    · simpa only [he] using h

/-! ### The Descriptor Ring (R91, R116) -/

@[simp] theorem advanceReconstruction_ring (s : State) : (advanceReconstruction s).buffer.ring = s.buffer.ring := by
  unfold advanceReconstruction
  split
  · rfl
  · split
    · rfl
    · split
      · rfl
      · split <;> rfl
      · rfl
      · rfl

/-- A begin appends one descriptor (R93, R94). -/
theorem beginEvent_ring_length (w : Window) (s : State) :
    (beginEvent w s).buffer.ring.length = s.buffer.ring.length + 1 := by
  unfold beginEvent
  split
  · simp [endAtOnce]
  · split
    · simp [beginBuilding]
    · simp [endAtOnce]

theorem beginReconstruction_ring_length {s : State} (h : s.buffer.ring.length ≤ Config.ringDepth) :
    (beginReconstruction s).buffer.ring.length ≤ Config.ringDepth := by
  unfold beginReconstruction
  split
  · split
    · simpa using h
    · next w hw =>
      have hlt : s.buffer.ring.length < Config.ringDepth := by
        unfold reconstructionCandidate at hw
        split at hw
        · assumption
        · cases hw
      simpa [beginEvent_ring_length] using hlt
  · exact h

/-- A completion replaces the newest descriptor (R121). -/
theorem completeEvent_ring_length (s : State) : (completeEvent s).buffer.ring.length = s.buffer.ring.length := by
  unfold completeEvent
  split
  · rfl
  · next b w d p hc =>
    have hne : s.buffer.ring ≠ [] := by
      rintro he
      simp [currentEvent, he] at hc
    have hpos := List.length_pos_of_ne_nil hne
    simp only [State.setRecon_buffer, State.setWindows_buffer, State.setBuffer_buffer, completeDescriptor,
      List.length_append, List.length_dropLast, List.length_singleton]
    omega

theorem removeNewest_ring_length (b : EventBuffer) : (removeNewest b).ring.length ≤ b.ring.length := by
  unfold removeNewest
  split
  · exact le_rfl
  · split <;> simp

theorem takeResync_ring_length (s : State) : (takeResync s).buffer.ring.length ≤ s.buffer.ring.length := by
  unfold takeResync
  split
  · simp only [discardWork, State.setWindows_buffer, abandonEvent]
    split
    · simp
    · simpa using removeNewest_ring_length s.buffer
  · exact le_rfl

theorem fetchOldest_ring_length (s : State) : (fetchOldest s).1.buffer.ring.length = s.buffer.ring.length := by
  unfold fetchOldest
  split
  · rfl
  · next d rest hr => split <;> simp [hr]

theorem releaseOldest_ring_length (epoch : BitVec 4) (event : BitVec 24) (s : State) :
    (releaseOldest epoch event s).1.buffer.ring.length ≤ s.buffer.ring.length := by
  unfold releaseOldest
  split
  · exact le_rfl
  · next d rest hr =>
    split
    · exact le_rfl
    · split
      · exact le_rfl
      · simp [EventBuffer.free, hr]

theorem ringWithin_kept : KeptByOperations fun s => s.buffer.ring.length ≤ Config.ringDepth where
  powerOnReset _ _ := Nat.zero_le _
  restartPart _ _ := Nat.zero_le _
  beginReconstruction _ := beginReconstruction_ring_length
  completeEvent s h := (completeEvent_ring_length s).trans_le h
  takeResync s h := (takeResync_ring_length s).trans h
  fetchOldest s h := (fetchOldest_ring_length s).trans_le h
  releaseOldest epoch event s h := (releaseOldest_ring_length epoch event s).trans h

/-! ### The Window Store (R87) -/

/-- The numbers of the occupied slots. -/
def slotNumbers (ws : List Window) : List (Fin 4) := ws.map fun w => w.slot

/-- Replacing a slot by one of the same number keeps the numbers. -/
theorem slotNumbers_updateWindow (ws : List Window) (n : Fin 4) {f : Window → Window} (hf : ∀ w, (f w).slot = w.slot) :
    slotNumbers (updateWindow ws n f) = slotNumbers ws := by
  unfold slotNumbers updateWindow
  rw [List.map_map]
  refine List.map_congr_left fun w _ => ?_
  dsimp only [Function.comp]
  split
  · exact hf w
  · rfl

theorem slotNumbers_freeWindow_sublist (ws : List Window) (n : Fin 4) :
    (slotNumbers (freeWindow ws n)).Sublist (slotNumbers ws) :=
  List.filter_sublist.map _

/-- The slot a capture begin claims is not occupied (R80). -/
theorem lowestFree_not_mem {ws : List Window} {n : Fin 4} (h : lowestFree ws = some n) : n ∉ slotNumbers ws := by
  have hfree := List.find?_some h
  simp only [findWindow, Option.isNone_iff_eq_none, List.find?_eq_none] at hfree
  unfold slotNumbers
  rw [List.mem_map]
  rintro ⟨w, hw, rfl⟩
  exact hfree w hw (by simp)

@[simp] theorem Window.withColumn_slot (w : Window) (k : Nat) (c : Column) (last : Bool) :
    (w.withColumn k c last).slot = w.slot := rfl

theorem copyColumn_slotNumbers (s : State) : slotNumbers (copyColumn s).windows = slotNumbers s.windows := by
  unfold copyColumn
  split
  · rfl
  · split
    · rfl
    · simpa using slotNumbers_updateWindow _ _ (by simp)

theorem beginEvent_slotNumbers_sublist (w : Window) (s : State) :
    (slotNumbers (beginEvent w s).windows).Sublist (slotNumbers s.windows) := by
  unfold beginEvent
  split
  · simpa [endAtOnce] using slotNumbers_freeWindow_sublist s.windows w.slot
  · split
    · simp only [beginBuilding, State.setRecon_windows, State.setWindows_windows, State.setBuffer_windows]
      rw [slotNumbers_updateWindow _ _ (by simp)]
    · simpa [endAtOnce] using slotNumbers_freeWindow_sublist s.windows w.slot

theorem beginReconstruction_slotNumbers_sublist (s : State) :
    (slotNumbers (beginReconstruction s).windows).Sublist (slotNumbers s.windows) := by
  unfold beginReconstruction
  split
  · split
    · simp
    · simpa using beginEvent_slotNumbers_sublist _ s
  · exact List.Sublist.refl _

theorem completeEvent_slotNumbers_sublist (s : State) :
    (slotNumbers (completeEvent s).windows).Sublist (slotNumbers s.windows) := by
  unfold completeEvent
  split
  · exact List.Sublist.refl _
  · simpa using slotNumbers_freeWindow_sublist s.windows _

/-- A Resync frees every slot or leaves the Window Store alone (R31). -/
theorem takeResync_windows (s : State) : (takeResync s).windows = [] ∨ (takeResync s).windows = s.windows := by
  unfold takeResync
  split
  · exact .inl rfl
  · exact .inr rfl

theorem beginCapture_slotNumbers_nodup {s : State} (h : (slotNumbers s.windows).Nodup) :
    (slotNumbers (beginCapture s).windows).Nodup := by
  unfold beginCapture
  split
  · exact h
  · next n e rest slot hc =>
    have hnodup : (slotNumbers s.windows ++ [slot]).Nodup :=
      List.nodup_append_comm.mp (List.nodup_cons.mpr ⟨lowestFree_not_mem (captureCandidate_some hc).2, h⟩)
    dsimp only
    split <;> simpa [slotNumbers, claimedWindow] using hnodup

theorem slotsDistinct_kept : KeptByOperations fun s => (slotNumbers s.windows).Nodup where
  powerOnReset _ _ := List.nodup_nil
  restartPart _ _ := List.nodup_nil
  beginCapture _ := beginCapture_slotNumbers_nodup
  copyColumn s h := by simpa only [copyColumn_slotNumbers] using h
  beginReconstruction s h := h.sublist (beginReconstruction_slotNumbers_sublist s)
  completeEvent s h := h.sublist (completeEvent_slotNumbers_sublist s)
  takeResync s h := by
    rcases takeResync_windows s with hw | hw
    · simp [hw, slotNumbers]
    · simpa only [hw] using h

/-! ### The Injection List (R178) -/

@[simp] theorem stepScan_fires (s : State) : (stepScan s).injection.fires = s.injection.fires := by
  unfold stepScan
  split <;> rfl

theorem appendFire_length {fires : List Fire} (h : fires.length ≤ Config.injectionRecords) (f : Fire) :
    (appendFire fires f).length ≤ Config.injectionRecords := by
  unfold appendFire
  split
  · simpa using ‹_›
  · simp only [List.length_append, List.length_drop, List.length_singleton]
    unfold Config.injectionRecords at *
    omega

theorem firesWithin_kept : KeptByOperations fun s => s.injection.fires.length ≤ Config.injectionRecords where
  powerOnReset _ _ := Nat.zero_le _
  restartPart _ _ := Nat.zero_le _
  beginForming _ h := (List.length_filter_le _ _).trans h
  fireTest s h := by
    simp only [fireTest, State.setTimer_injection, State.setInjection_injection]
    split
    · exact appendFire_length h _
    · exact h
  startScan _ h := h
  stopScan _ h := h

/-! ### The accept counts (R27) -/

@[simp] theorem loseRun_counts (s : State) :
    (loseRun s).run.ignored = s.run.ignored ∧ (loseRun s).run.discarded = s.run.discarded := by
  rw [loseRun_run]
  split <;> exact ⟨rfl, rfl⟩

@[simp] theorem drain_counts (s : State) :
    (drain s).run.ignored = s.run.ignored ∧ (drain s).run.discarded = s.run.discarded := by
  rw [drain_run]
  split <;> exact ⟨rfl, rfl⟩

@[simp] theorem startingRunBegins_counts (s : State) :
    (startingRunBegins s).run.ignored = s.run.ignored ∧ (startingRunBegins s).run.discarded = s.run.discarded := by
  unfold startingRunBegins
  split <;> exact ⟨rfl, rfl⟩

@[simp] theorem takeMarker_counts (s : State) :
    (takeMarker s).run.ignored = s.run.ignored ∧ (takeMarker s).run.discarded = s.run.discarded := by
  unfold takeMarker
  split
  · dsimp only
    (repeat' split) <;> simp
  · exact ⟨rfl, rfl⟩

@[simp] theorem takeLinkError_counts (s : State) :
    (takeLinkError s).run.ignored = s.run.ignored ∧ (takeLinkError s).run.discarded = s.run.discarded := by
  simp [takeLinkError]

@[simp] theorem startRun_counts (s : State) :
    (startRun s).run.ignored = s.run.ignored ∧ (startRun s).run.discarded = s.run.discarded := by
  unfold startRun
  split <;> simp

@[simp] theorem stopRun_counts (s : State) :
    (stopRun s).run.ignored = s.run.ignored ∧ (stopRun s).run.discarded = s.run.discarded := by
  unfold stopRun
  split <;> simp

theorem ignoredWithin_kept : KeptByOperations fun s => s.run.ignored ≤ Config.countLimit where
  powerOnReset _ _ := Nat.zero_le _
  restartPart _ _ := Nat.zero_le _
  takeAccept s h := by
    rcases takeAccept_cases s with he | he | he | he | ⟨e, k, _, he⟩ <;> simp only [he]
    · exact h
    · exact satInc_le h
    · exact h
    · simpa [countDiscarded] using h
    · exact h
  takeResync s h := by
    unfold takeResync
    split
    · simpa [discardWork] using h
    · exact h

theorem discardedWithin_kept : KeptByOperations fun s => s.run.discarded ≤ Config.countLimit where
  powerOnReset _ _ := Nat.zero_le _
  restartPart _ _ := Nat.zero_le _
  takeAccept s h := by
    rcases takeAccept_cases s with he | he | he | he | ⟨e, k, _, he⟩ <;> simp only [he]
    · exact h
    · exact h
    · exact satInc_le h
    · simpa [countDiscarded] using satInc_le h
    · exact h
  takeResync s h := by
    unfold takeResync
    split
    · simpa [discardWork] using satAdd_le _ _ _
    · exact h

/-! ### The cause counts (R181) -/

/-- The monitor after at most one occurrence of one cause. -/
def Monitor.ReportsAtMost (c : Cause) (m n : Monitor) : Prop := n = m ∨ n = m.occurrence c

theorem reportIf_reports (b : Bool) (c : Cause) (s : State) : s.monitor.ReportsAtMost c (reportIf b c s).monitor := by
  cases b
  · exact .inl rfl
  · exact .inr rfl

theorem killChannel_reports (ch : Channel) (s : State) :
    s.monitor.ReportsAtMost .channelKilled (killChannel ch s).monitor := by
  unfold killChannel
  dsimp only
  split
  · exact .inr rfl
  · exact .inl rfl

theorem formCandidate_reports (ch : Channel) (g : Gain) (s : State) :
    s.monitor.ReportsAtMost .pedestalJump (formCandidate ch g s).monitor := by
  unfold formCandidate
  dsimp only
  split
  · exact .inl rfl
  · split
    · exact .inl rfl
    · exact .inr rfl

theorem installCandidate_reports (ch : Channel) (g : Gain) (s : State) :
    s.monitor.ReportsAtMost .pedestalJump (installCandidate ch g s).monitor := by
  unfold installCandidate
  dsimp only
  split
  · exact .inl rfl
  · split
    · exact .inl rfl
    · exact .inr rfl

theorem writeColumn_reports (pairs : Oct CodePair) (s : State) :
    s.monitor.ReportsAtMost .converterFault (writeColumn pairs s).monitor := by
  unfold writeColumn
  split
  · exact .inl rfl
  · split
    · exact .inl rfl
    · exact reportIf_reports _ _ _

theorem beginCapture_reports (s : State) : s.monitor.ReportsAtMost .lateCapture (beginCapture s).monitor := by
  unfold beginCapture
  split
  · exact .inl rfl
  · next n e rest slot _ =>
    dsimp only
    cases windowLate s e n
    · exact .inl rfl
    · exact .inr rfl

theorem beginEvent_reports (w : Window) (s : State) : s.monitor.ReportsAtMost .truncated (beginEvent w s).monitor := by
  unfold beginEvent
  split
  · exact .inl rfl
  · split
    · exact .inl rfl
    · exact .inr rfl

theorem beginReconstruction_reports (s : State) :
    s.monitor.ReportsAtMost .truncated (beginReconstruction s).monitor := by
  unfold beginReconstruction
  split
  · split
    · exact .inl rfl
    · exact beginEvent_reports _ s
  · exact .inl rfl

theorem takeMarker_reports (s : State) : s.monitor.ReportsAtMost .turnSlip (takeMarker s).monitor := by
  unfold takeMarker
  split
  · dsimp only
    split
    · right
      split <;> simp
    · left
      split <;> simp
  · exact .inl rfl

theorem takeAccept_reports (s : State) : s.monitor.ReportsAtMost .acceptOverflow (takeAccept s).monitor := by
  rcases takeAccept_cases s with he | he | he | he | ⟨e, k, _, he⟩ <;> rw [he]
  · exact .inl rfl
  · exact .inl rfl
  · exact .inl rfl
  · exact .inr (by simp [countDiscarded])
  · exact .inl rfl

/-- Every cause count is at most 65535 (R181). -/
def CauseCounts.Within (k : CauseCounts) : Prop := ∀ c ∈ causes, k.get c ≤ Config.countLimit

theorem CauseCounts.within_zero : CauseCounts.zero.Within := by
  intro c _
  cases c <;> exact Nat.zero_le _

theorem CauseCounts.Within.bump {k : CauseCounts} (h : k.Within) (c : Cause) : (k.bump c).Within := by
  intro d hd
  rw [CauseCounts.get_bump]
  split
  · exact satInc_le (h d hd)
  · exact h d hd

theorem CauseCounts.Within.of_reports {m n : Monitor} {c : Cause} (h : m.counts.Within) (hr : m.ReportsAtMost c n) :
    n.counts.Within := by
  rcases hr with rfl | rfl
  · exact h
  · exact h.bump c

theorem causeCountsWithin_kept : KeptByOperations fun s => s.monitor.counts.Within where
  powerOnReset _ _ := CauseCounts.within_zero
  restartPart _ _ := CauseCounts.within_zero
  report c _ h := h.bump c
  killChannel ch s h := h.of_reports (killChannel_reports ch s)
  formCandidate ch g s h := h.of_reports (formCandidate_reports ch g s)
  installCandidate ch g s h := h.of_reports (installCandidate_reports ch g s)
  writeColumn pairs s h := h.of_reports (writeColumn_reports pairs s)
  beginCapture s h := h.of_reports (beginCapture_reports s)
  beginReconstruction s h := h.of_reports (beginReconstruction_reports s)
  takeMarker s h := h.of_reports (takeMarker_reports s)
  takeAccept s h := h.of_reports (takeAccept_reports s)
  takeLinkError s h := by simpa [takeLinkError] using h.bump .linkError
  clearCauses _ _ h := h
  setEnables _ _ h := h
  clearCounts _ _ := CauseCounts.within_zero

/-! ### The consecutive-fault counts (R14) -/

/-- Every consecutive-fault count is at most 255 (R14). -/
def FaultsWithin (o : Oct InputChannel) : Prop := ∀ ch : Channel, (o.get ch).faults ≤ Config.smallCountLimit

theorem faultsWithin_reset : FaultsWithin (Oct.all InputChannel.reset) := by
  intro ch
  rw [Oct.get_all]
  exact Nat.zero_le _

theorem FaultsWithin.set {o : Oct InputChannel} (h : FaultsWithin o) (ch : Channel) {c : InputChannel}
    (hc : c.faults ≤ Config.smallCountLimit) : FaultsWithin (o.set ch c) := by
  intro k
  rw [Oct.get_set]
  split
  · exact hc
  · exact h k

theorem faultsAfter_le {n : Nat} (h : n ≤ Config.smallCountLimit) (state : SampleState) :
    faultsAfter state n ≤ Config.smallCountLimit := by
  unfold faultsAfter
  split
  · exact satInc_le h
  · exact Nat.zero_le _

theorem faultsWithin_kept : KeptByOperations fun s => FaultsWithin s.inputs.channels where
  powerOnReset _ _ := faultsWithin_reset
  restartPart _ _ := faultsWithin_reset
  deliverPairs _ _ h := h
  killChannel ch s h := by
    unfold killChannel
    dsimp only
    split
    · exact h.set ch (Nat.zero_le _)
    · exact h
  reviveChannel ch s h := by
    unfold reviveChannel
    dsimp only
    split
    · exact h.set ch (Nat.zero_le _)
    · exact h
  writeColumn pairs s h := by
    unfold writeColumn
    split
    · exact h
    · split
      · exact h
      · simp only [reportIf_frame, State.setInputs_inputs]
        intro ch
        rw [Oct.get_ofFn]
        exact faultsAfter_le (h ch) _

/-! ### The overrun counts (R138, R169) -/

/-- The overrun count of a port is at most 255 (R138, R169). -/
def Port.OverrunWithin (p : Port) : Prop := ∀ o ∈ p.overrun, o.count ≤ Config.smallCountLimit

/-- A port that keeps its overrun account, or clears it, keeps its count in the limit. -/
theorem Port.OverrunWithin.of_overrun {p q : Port} (h : p.OverrunWithin)
    (hq : q.overrun = p.overrun ∨ q.overrun = none) : q.OverrunWithin := by
  unfold Port.OverrunWithin
  rcases hq with hq | hq <;> rw [hq]
  · exact h
  · simp

theorem Port.OverrunWithin.overrunBy {p : Port} (h : p.OverrunWithin) (code : Nat) :
    (p.overrunBy code).OverrunWithin := by
  unfold Port.OverrunWithin Port.overrunBy at *
  cases ho : p.overrun with
  | none => simp
  | some o => simpa using satInc_le (h o ho)

theorem Port.OverrunWithin.respond {p : Port} (h : p.OverrunWithin) (forming : Bool) (r : Response) :
    (p.respond forming r).OverrunWithin := h

theorem Port.OverrunWithin.send {p : Port} (h : p.OverrunWithin) (b : EventBuffer) : (p.send b).OverrunWithin := by
  refine h.of_overrun (.inl ?_)
  unfold Port.send
  split
  · rfl
  · split <;> rfl

theorem Port.OverrunWithin.finish {p : Port} (h : p.OverrunWithin) (busy : Overrun → Word) :
    (p.finish busy).OverrunWithin := by
  refine h.of_overrun ?_
  unfold Port.finish
  split
  · exact .inl rfl
  · exact .inr rfl

theorem readoutOverrun_kept : KeptByOperations fun s => s.readout.OverrunWithin where
  powerOnReset _ _ := by simp [Port.OverrunWithin, State.reset, Port.idle]
  restartPart _ h := h
  readoutOverrun code _ h := h.overrunBy code
  readoutRespond b r _ h := h.respond b r
  sendWords s h := h.send s.buffer
  endResponse l s h := by
    unfold endResponse
    split
    · cases l
      · exact h.finish _
      · exact h
    · exact h

theorem controlOverrun_kept : KeptByOperations fun s => s.control.OverrunWithin where
  powerOnReset _ _ := by simp [Port.OverrunWithin, State.reset, Port.idle]
  restartPart _ h := h
  controlOverrun code _ h := h.overrunBy code
  controlRespond b r _ h := h.respond b r
  sendWords s h := h.send s.buffer
  endResponse l s h := by
    unfold endResponse
    split
    · cases l
      · exact h
      · exact h.finish _
    · exact h

/-! ### The obligation -/

/-- Settles O5: each capacity and each saturating count is kept by every operation that changes it. -/
theorem limitsKept : Obligations.LimitsKept := by
  intro s t hcap hcount hstep
  obtain ⟨hqueue, hring, hslots, hfires⟩ := hcap
  obtain ⟨hignored, hdiscarded, hcauses, hfaults, hreadout, hcontrol⟩ := hcount
  exact ⟨⟨queueWithin_kept.step hqueue hstep, ringWithin_kept.step hring hstep, slotsDistinct_kept.step hslots hstep,
      firesWithin_kept.step hfires hstep⟩,
    ignoredWithin_kept.step hignored hstep, discardedWithin_kept.step hdiscarded hstep,
    causeCountsWithin_kept.step hcauses hstep, faultsWithin_kept.step hfaults hstep,
    readoutOverrun_kept.step hreadout hstep, controlOverrun_kept.step hcontrol hstep⟩

end Sys2Proof.Machine
end

section
/-! Requests at an Idle control port: freeze, kills and revives, reads of the inputs and the pipeline, Restart. -/

namespace Sys2Proof.Machine

/-! ### A request at an Idle port -/

/-- Where nothing is due, a control request at an Idle port is executed on the state as it stands (R169). -/
theorem controlRequest_of_ready {s : State} (h : ControlReady s) (code : Nat) (execute : State → State × Reply) :
    controlRequest code execute s
      = (execute s).1.setControl
          ((execute s).1.control.respond (isForming (execute s).1) (.words ((execute s).2.words code))) := by
  rw [controlRequest_of_idle h.1, settleRequest_of_nothingDue h.2]

/-- A request that only answers changes the control port alone. -/
theorem controlRequest_answer_of_ready {s : State} (h : ControlReady s) (code : Nat) (reply : State → Reply) :
    controlRequest code (answer reply) s = { s with control := controlAnswering s ((reply s).words code) } := by
  rw [controlRequest_of_ready h]
  rfl

/-! ### What the commands of this part are -/

theorem exec_autoKill (ch : Channel) (s : State) : exec (.autoKill ch) s = .next (killChannel ch s) := rfl

theorem exec_revive (channel : BitVec 16) (s : State) :
    exec (.revive channel) s = .next (controlRequest 9 (reviveEffect channel) s) := rfl

theorem exec_freeze (s : State) :
    exec .freeze s = .next (controlRequest 16 (fun t => (freezePipeline t, freezeReply t)) s) := rfl

theorem exec_unfreeze (s : State) : exec .unfreeze s = .next (controlRequest 17 (actDone unfreezePipeline) s) := rfl

/-! ### Freeze and Unfreeze -/

theorem exec_freeze_of_not_idle {s : State} (h : ControlReady s) (hr : s.run.state ≠ .idle) :
    exec .freeze s = .next { s with control := controlAnswering s ((Reply.refused .notIdle).words 16) } := by
  rw [exec_freeze, controlRequest_of_ready h]
  simp only [freezePipeline, freezeReply, if_neg hr]
  rfl

theorem exec_freeze_of_idle {s : State} (h : ControlReady s) (hr : s.run.state = .idle) :
    exec .freeze s = .next
      { s with
        pipeline := { s.pipeline with frozen := true }
        control := controlAnswering s ((Reply.done []).words 16) } := by
  rw [exec_freeze, controlRequest_of_ready h]
  simp only [freezePipeline, freezeReply, if_pos hr]
  rfl

theorem exec_unfreeze_of_frozen {s : State} (h : ControlReady s) (hf : s.pipeline.frozen = true) :
    exec .unfreeze s = .next
      { s with
        pipeline := { s.pipeline with frozen := false }
        towers := Quad.all TowerHistory.absent
        control := controlAnswering s ((Reply.done []).words 17) } := by
  rw [exec_unfreeze, controlRequest_of_ready h]
  simp only [actDone, unfreezePipeline, if_pos hf]
  rfl

theorem exec_unfreeze_of_not_frozen {s : State} (h : ControlReady s) (hf : s.pipeline.frozen = false) :
    exec .unfreeze s = .next { s with control := controlAnswering s ((Reply.done []).words 17) } := by
  rw [exec_unfreeze, controlRequest_of_ready h]
  simp only [actDone, unfreezePipeline, hf]
  rfl

/-- Settles O56, by the run state for FREEZE and by the frozen flag for UNFREEZE. -/
theorem freezeAnswers : Obligations.FreezeAnswers := fun _ h =>
  ⟨exec_freeze_of_not_idle h, exec_freeze_of_idle h, exec_unfreeze_of_frozen h, exec_unfreeze_of_not_frozen h⟩

/-! ### Kills and revives -/

theorem killChannel_of_due {ch : Channel} {s : State} (h : (s.inputs.channels.get ch).killDue = true) :
    killChannel ch s
      = { s with
          inputs := { s.inputs with
            channels := s.inputs.channels.set ch ⟨true, 0, (s.inputs.channels.get ch).hold, false⟩ }
          monitor := s.monitor.occurrence .channelKilled } := by
  unfold killChannel
  simp only [h, if_true]
  rfl

theorem reviveChannel_of_killed {ch : Channel} {s : State} (h : (s.inputs.channels.get ch).killed = true) :
    reviveChannel ch s
      = { s with
          inputs := { s.inputs with
            channels :=
              s.inputs.channels.set ch { s.inputs.channels.get ch with killed := false, faults := 0 } } } := by
  unfold reviveChannel
  simp only [h, if_true]
  rfl

theorem reviveChannel_of_not_killed {ch : Channel} {s : State} (h : (s.inputs.channels.get ch).killed = false) :
    reviveChannel ch s = s := by
  unfold reviveChannel
  simp [h]

/-- An argument that is no channel is out of range (R152). -/
theorem channelArgument_of_ge {b : BitVec 16} (h : 8 ≤ b.toNat) : channelArgument b = none :=
  dif_neg (by omega)

/-- An argument that is a channel names it (R152). -/
theorem channelArgument_of_eq {b : BitVec 16} {ch : Channel} (h : b.toNat = ch.val) : channelArgument b = some ch := by
  unfold channelArgument
  rw [dif_pos (by omega)]
  exact congrArg some (Fin.ext h)

theorem exec_revive_of_range {channel : BitVec 16} {s : State} (h : ControlReady s) (hc : 8 ≤ channel.toNat) :
    exec (.revive channel) s = .next { s with control := controlAnswering s ((Reply.refused .range).words 9) } := by
  rw [exec_revive, controlRequest_of_ready h]
  simp only [reviveEffect, channelArgument_of_ge hc]
  rfl

theorem exec_revive_of_channel {channel : BitVec 16} {s : State} {ch : Channel} (h : ControlReady s)
    (hc : channel.toNat = ch.val) :
    exec (.revive channel) s
      = .next ((reviveChannel ch s).setControl (controlAnswering s ((Reply.done []).words 9))) := by
  rw [exec_revive, controlRequest_of_ready h]
  simp only [reviveEffect, channelArgument_of_eq hc, isForming, reviveChannel_frame]
  rfl

/-- Settles O30: AUTO_KILL by whether the kill is due, REVIVE by its argument and the killed flag. -/
theorem autoKillAndRevive : Obligations.AutoKillAndRevive := by
  refine ⟨fun ch s => ⟨fun hdue => ?_, fun hdue => by rw [exec_autoKill, killChannel_of_not_due hdue]⟩,
    fun channel s h => ⟨exec_revive_of_range h, fun ch hc => ⟨fun hk => ?_, fun hk => ?_⟩⟩⟩
  · rw [exec_autoKill, killChannel_of_due hdue]
    refine ⟨_, rfl, rfl, rfl, Oct.get_set_same _ _ _, fun k hne => ?_⟩
    exact (Oct.get_set _ _ _ _).trans (if_neg hne)
  · rw [exec_revive_of_channel h hc, reviveChannel_of_not_killed hk]
    rfl
  · rw [exec_revive_of_channel h hc, reviveChannel_of_killed hk]
    refine ⟨_, rfl, rfl, rfl, Oct.get_set_same _ _ _, fun k hne => ?_⟩
    exact (Oct.get_set _ _ _ _).trans (if_neg hne)

end Sys2Proof.Machine
end

section
/-! Reads of the inputs and the pipeline, Restart, and power-on reset. -/

namespace Sys2Proof.Machine

/-! ### The held test (R12) -/

/-- A stored index is held where it is the crossing's, at an age of 0 to 255 before the reference (R12). -/
theorem isHeld_iff (index reference : Option Nat) (x : Int) :
    isHeld index reference x = true ↔
      ∃ i r : Nat, index = some i ∧ reference = some r ∧ (i : Int) = x ∧ i ≤ r ∧ r - i ≤ 255 := by
  unfold isHeld Config.greatestAge
  cases index with
  | none => simp
  | some i =>
    cases reference with
    | none => simp
    | some r =>
      rw [decide_eq_true_eq]
      constructor
      · rintro ⟨hx, hle, hage⟩
        exact ⟨i, r, rfl, rfl, hx, by omega, by omega⟩
      · rintro ⟨_, _, ⟨⟩, ⟨⟩, hx, hle, hage⟩
        omega

/-- The column at age `a` of write head `h` is held: its slot is stamped with crossing `h - a`, at most 255 crossings before the
reference (R12). -/
def HeldAtAge (s : State) (a : Nat) (column : Column) : Prop :=
  ∃ h r, s.pipeline.head = some h ∧ referenceIndex s = some r ∧ a ≤ h ∧ h - a ≤ r ∧ r - (h - a) ≤ 255 ∧
    storedColumn s.pipeline ((h - a) % 256) = ⟨column, some (h - a)⟩

theorem columnSlot_natCast (n : Nat) : columnSlot (n : Int) = n % 256 := by
  unfold columnSlot Config.pipelineDepth
  omega

/-- A column that is held is read at its age. -/
theorem columnAtAge_of_held {s : State} {a : Nat} {column : Column} (hheld : HeldAtAge s a column) :
    columnAtAge s a = column := by
  obtain ⟨h, r, hh, hr, ha, hle, hage, hc⟩ := hheld
  have hx : (h : Int) - (a : Int) = ((h - a : Nat) : Int) := by omega
  simp only [columnAtAge, hh, readColumn, hx, columnSlot_natCast, hc]
  exact if_pos ((isHeld_iff _ _ _).mpr ⟨h - a, r, rfl, hr, rfl, hle, hage⟩)

/-- At an age at which no column is held an Empty column is read (R12). -/
theorem columnAtAge_of_not_held {s : State} {a : Nat} (hn : ¬ ∃ column, HeldAtAge s a column) :
    columnAtAge s a = Column.empty := by
  unfold columnAtAge
  cases hh : s.pipeline.head with
  | none => rfl
  | some h =>
    refine if_neg fun hheld => hn ?_
    obtain ⟨i, r, hi, hr, hx, hle, hage⟩ := (isHeld_iff _ _ _).mp hheld
    have ha : a ≤ h := by omega
    obtain rfl : i = h - a := by omega
    rw [← hx, columnSlot_natCast] at hi
    refine ⟨(storedColumn s.pipeline ((h - a) % 256)).column, h, r, hh, hr, ha, hle, hage, ?_⟩
    rw [← hi]

/-! ### The answers of the pipeline reads (R187) -/

/-- An age above 255 is out of range (R187). -/
theorem ageArgument_of_ge {a : BitVec 11} (h : 256 ≤ a.toNat) : ageArgument a = none :=
  if_neg (by unfold Config.greatestAge; omega)

theorem ageArgument_of_lt {a : BitVec 11} (h : a.toNat < 256) : ageArgument a = some a.toNat :=
  if_pos (by unfold Config.greatestAge; omega)

theorem exec_peekInput {s : State} (h : ControlReady s) (channel : BitVec 16) :
    exec (.peekInput channel) s = .next { s with control := controlAnswering s ((peekReply channel s).words 18) } :=
  congrArg Host.Outcome.next (controlRequest_answer_of_ready h 18 (peekReply channel))

theorem exec_readCell {s : State} (h : ControlReady s) (age : BitVec 11) (channel : BitVec 16) :
    exec (.readCell age channel) s
      = .next { s with control := controlAnswering s ((readCellReply age channel s).words 19) } :=
  congrArg Host.Outcome.next (controlRequest_answer_of_ready h 19 (readCellReply age channel))

theorem exec_readColumn {s : State} (h : ControlReady s) (age : BitVec 11) :
    exec (.readColumn age) s = .next { s with control := controlAnswering s ((readColumnReply age s).words 21) } :=
  congrArg Host.Outcome.next (controlRequest_answer_of_ready h 21 (readColumnReply age))

theorem readCellReply_of_range {s : State} {age : BitVec 11} {channel : BitVec 16}
    (h : 256 ≤ age.toNat ∨ 8 ≤ channel.toNat) : readCellReply age channel s = .refused .range := by
  unfold readCellReply
  rcases h with h | h
  · rw [ageArgument_of_ge h]
  · rw [channelArgument_of_ge h]
    cases ageArgument age <;> rfl

/-- The gain bit of a cell word is 1 for Low (R151). -/
theorem Gain.bit_eq (g : Gain) : Gain.bit g = BitVec.ofBool (decide (g = .low)) := by
  cases g <;> rfl

theorem flagWord_eq (b : Bool) : flagWord b = if b then 1 else 0 := by
  cases b <;> rfl

/-- Settles O57: each read answers from the state as it stands, the column reads by the held test. -/
theorem pipelineReadsAnswer : Obligations.PipelineReadsAnswer := by
  intro s h word answered held isAt
  have hword : ∀ x, word x = cellWord x := fun x => by
    rw [cellWord, Gain.bit_eq]
    rfl
  have hcolumn : ∀ a column, isAt a column → columnAtAge s a = column := by
    rintro a column (hheld | ⟨hn, rfl⟩)
    · exact columnAtAge_of_held hheld
    · exact columnAtAge_of_not_held hn
  refine ⟨fun channel => ⟨fun hc => ?_, fun ch hc => ⟨fun hnone => ?_, fun pairs hsome => ?_⟩⟩,
    fun age channel hrange => ?_, fun age hage => ?_, fun age column hage hat => ⟨fun channel ch hc => ?_, ?_⟩⟩
  · refine (exec_peekInput h channel).trans ?_
    rw [peekReply, channelArgument_of_ge hc]
    rfl
  · refine (exec_peekInput h channel).trans ?_
    rw [peekReply, channelArgument_of_eq hc]
    simp only [peekWords, hnone]
    rfl
  · refine (exec_peekInput h channel).trans ?_
    rw [peekReply, channelArgument_of_eq hc]
    simp only [peekWords, hsome, flagWord_eq]
    rfl
  · refine (exec_readCell h age channel).trans ?_
    rw [readCellReply_of_range hrange]
    rfl
  · refine (exec_readColumn h age).trans ?_
    rw [readColumnReply, ageArgument_of_ge hage]
    rfl
  · refine (exec_readCell h age channel).trans ?_
    simp only [readCellReply, ageArgument_of_lt hage, channelArgument_of_eq hc, hcolumn _ _ hat, hword]
    rfl
  · refine (exec_readColumn h age).trans ?_
    simp only [readColumnReply, ageArgument_of_lt hage, hcolumn _ _ hat, hword]
    rfl

/-! ### Restart (R35) -/

theorem Monitor.ReportsAtMost.enables_eq {c : Cause} {m n : Monitor} (h : m.ReportsAtMost c n) :
    n.enables = m.enables := by
  rcases h with rfl | rfl <;> rfl

@[simp] theorem killChannel_pairs (ch : Channel) (s : State) : (killChannel ch s).inputs.pairs = s.inputs.pairs := by
  unfold killChannel
  dsimp only
  split <;> rfl

@[simp] theorem killChannels_pairs (s : State) : (killChannels s).inputs.pairs = s.inputs.pairs :=
  foldl_frame (fun s => s.inputs.pairs) _ (fun s ch => killChannel_pairs ch s) channels s

@[simp] theorem killChannels_enables (s : State) : (killChannels s).monitor.enables = s.monitor.enables :=
  foldl_frame (fun s => s.monitor.enables) _ (fun s ch => (killChannel_reports ch s).enables_eq) channels s

@[simp] theorem formCandidates_enables (s : State) : (formCandidates s).monitor.enables = s.monitor.enables :=
  foldl_frame (fun s => s.monitor.enables) _ (fun s (p : Channel × Gain) => (formCandidate_reports p.1 p.2 s).enables_eq)
    trackerPlaces s

@[simp] theorem stepScan_charge (s : State) : (stepScan s).injection.charge = s.injection.charge := by
  unfold stepScan
  split <;> rfl

@[simp] theorem drain_uplink (s : State) : (drain s).trigger.uplink = s.trigger.uplink := by
  rw [drain_trigger]
  split <;> rfl

/-- What is due before a Restart leaves no trace after it. -/
theorem restartPart_settleRequest (s : State) : restartPart (settleRequest s) = restartPart s := by
  have huplink : (settleRequest s).trigger.uplink = s.trigger.uplink := by simp [settleRequest, makeDue]
  have hpairs : (settleRequest s).inputs.pairs = s.inputs.pairs := by simp [settleRequest, makeDue]
  have hcharge : (settleRequest s).injection.charge = s.injection.charge := by simp [settleRequest, makeDue]
  have henables : (settleRequest s).monitor.enables = s.monitor.enables := by simp [settleRequest, makeDue]
  simp [restartPart, huplink, hpairs, hcharge, henables]

theorem exec_restart (s : State) : exec .restart s = .next (controlRequest 8 (actDone restartPart) s) := rfl

/-- A stream that has not ended is aborted, any other response stays (R143). -/
theorem Response.abort_stream (st : Stream) :
    (Response.stream st).abort = if st.ended then .stream st else .stream { st with aborted := true } := rfl

/-- Settles O53: what is due before the Restart leaves no trace, and the Restart sets every block. -/
theorem restartEffect : Obligations.RestartEffect := by
  intro s h
  rw [exec_restart, controlRequest_of_idle h]
  simp only [actDone, restartPart_settleRequest]
  cases hr : s.readout.response with
  | none =>
    simp only [restartPart, Port.abort, hr]
    rfl
  | some r =>
    cases r with
    | words left =>
      simp only [restartPart, Port.abort, hr]
      rfl
    | stream st =>
      simp only [restartPart, Port.abort, hr, Option.map_some, Response.abort_stream, apply_ite some]
      rfl

/-! ### Power-on reset (R36) -/

theorem exec_powerOnReset (s : State) : exec .powerOnReset s = .next (State.reset.setPending s.pending) := rfl

/-- Settles O2: every block's power-on value, the defaults by the catalogue. -/
theorem powerOnResetState : Obligations.PowerOnResetState := by
  intro s
  refine ⟨_, exec_powerOnReset s, rfl, rfl, rfl, Oct.get_all _, rfl, fun _ => rfl, rfl, rfl, Quad.get_all _, rfl, rfl, rfl,
    rfl, rfl, fun _ => rfl, rfl, rfl, rfl, rfl, fun _ => ⟨rfl, rfl⟩, ?_, ?_, rfl, rfl, rfl, rfl, Oct.get_all _, rfl, rfl,
    rfl⟩
  · decide
  · decide

end Sys2Proof.Machine
end

section
/-! The event rows of what the last updates leave due, and the requests and crossings that follow them (log 11). -/

namespace Sys2Proof.Machine

/-! ### Runs of event rows -/

/-- Rows that each make one update are a fold of the updates. -/
theorem runRows_map_append {β : Type} {row : β → Instr} {f : State → β → State}
    (hrow : ∀ s b, exec (row b) s = .next (f s b)) (l : List β) (rest : List Instr) (s : State) :
    runRows (l.map row ++ rest) s = runRows rest (l.foldl f s) := by
  induction l generalizing s with
  | nil => rfl
  | cons b l ih =>
    rw [List.map_cons, List.cons_append, runRows, hrow]
    exact ih _

theorem updateRows_append (rest : List Instr) :
    updateRows ++ rest
      = channels.map Instr.autoKill
          ++ (trackerPlaces.map (fun p => Instr.pedestalCandidate p.1 p.2) ++ (.scanStep :: rest)) := rfl

/-- The update rows make the kills, candidates and scan step that are due. -/
theorem runRows_updateRows_append (rest : List Instr) (s : State) :
    runRows (updateRows ++ rest) s = runRows rest (makeDue s) := by
  rw [updateRows_append, runRows_map_append (f := fun t ch => killChannel ch t) fun _ _ => rfl,
    runRows_map_append (f := fun t p => formCandidate p.1 p.2 t) fun _ _ => rfl]
  rfl

/-- The due rows make what a request settles. -/
theorem runRows_dueRows (s : State) : runRows dueRows s = settleRequest s :=
  runRows_updateRows_append _ s

/-- The opening rows make what the opening of a crossing settles. -/
theorem runRows_openingRows (s : State) : runRows (openingRows s) s = settle s := by
  have hdue : completionDue (makeDue s) = completionDue s := by simp [completionDue]
  rw [openingRows, List.append_assoc, runRows_updateRows_append, settle, completeDue, hdue]
  cases hc : completionDue s with
  | false => rfl
  | true =>
    have hexec : exec .reconstructionComplete (makeDue s) = .next (completeEvent (makeDue s)) := by
      change Host.Outcome.next (ite _ _ _) = _
      rw [hdue, if_pos hc]
    simp only [if_true, List.singleton_append, runRows, hexec]
    rfl

/-! ### What is left due is made -/

/-- A fold of updates, each of which brings about its own property and keeps those of the others, brings about all of them. -/
theorem foldl_establishes {β : Type} {Q : β → State → Prop} {f : State → β → State} (hown : ∀ s b, Q b (f s b))
    (hkeep : ∀ s b c, Q c s → Q c (f s b)) (l : List β) (s : State) : ∀ b ∈ l, Q b (l.foldl f s) := by
  induction l generalizing s with
  | nil => simp
  | cons a l ih =>
    intro b hb
    rcases List.mem_cons.mp hb with rfl | hb
    · exact foldl_keeps (fun s c => hkeep s c b) l (hown s b)
    · exact ih _ b hb

theorem killChannel_killDue (ch k : Channel) (s : State) :
    ((killChannel ch s).inputs.channels.get k).killDue
      = if k = ch then false else (s.inputs.channels.get k).killDue := by
  cases hdue : (s.inputs.channels.get ch).killDue with
  | false =>
    rw [killChannel_of_not_due hdue]
    split
    · subst k
      exact hdue
    · rfl
  | true =>
    rw [killChannel_of_due hdue]
    simp only [Oct.get_set]
    split <;> rfl

theorem killChannels_killDue (s : State) (ch : Channel) :
    ((killChannels s).inputs.channels.get ch).killDue = false :=
  foldl_establishes (Q := fun ch s => (s.inputs.channels.get ch).killDue = false)
    (fun s b => by rw [killChannel_killDue, if_pos rfl])
    (fun s b c hc => by rw [killChannel_killDue, hc, ite_self]) channels s ch (mem_channels ch)

theorem accumulator_setAccumulator (s : State) (ch k : Channel) (g e : Gain) (a : Accumulator) :
    accumulator (setAccumulator s ch g a) k e = if k = ch ∧ e = g then a else accumulator s k e := by
  simp only [accumulator, setAccumulator, State.setTracker_tracker, Oct.get_set]
  by_cases hk : k = ch
  · subst k
    cases g <;> cases e <;> simp [TrackerChannel.get, TrackerChannel.set]
  · simp [hk]

/-- A candidate that is due is made and leaves its accumulator with none due; no other accumulator changes (R174). -/
theorem formCandidate_due (ch k : Channel) (g e : Gain) (s : State) :
    (accumulator (formCandidate ch g s) k e).due = if k = ch ∧ e = g then none else (accumulator s k e).due := by
  cases hdue : (accumulator s ch g).due with
  | none =>
    rw [formCandidate_of_not_due hdue]
    split
    · next heq =>
      obtain ⟨rfl, rfl⟩ := heq
      exact hdue
    · rfl
  | some code =>
    simp only [formCandidate, hdue]
    split
    · rw [accumulator_setAccumulator]
      split <;> rfl
    · change (accumulator (setAccumulator s ch g _) k e).due = _
      rw [accumulator_setAccumulator]
      split <;> rfl

theorem mem_trackerPlaces (ch : Channel) (g : Gain) : (ch, g) ∈ trackerPlaces := by
  unfold trackerPlaces
  rw [List.mem_flatMap]
  exact ⟨ch, mem_channels ch, by cases g <;> simp⟩

theorem formCandidates_due (s : State) (ch : Channel) (g : Gain) :
    (accumulator (formCandidates s) ch g).due = none :=
  foldl_establishes (Q := fun (p : Channel × Gain) s => (accumulator s p.1 p.2).due = none)
    (fun s b => by rw [formCandidate_due, if_pos ⟨rfl, rfl⟩])
    (fun s b c hc => by rw [formCandidate_due, hc, ite_self]) trackerPlaces s (ch, g) (mem_trackerPlaces ch g)

theorem stepAtLimit_stepIsDue (s : State) (d : Direction) (a : Int) : (stepAtLimit s d a).1.stepIsDue = false := by
  unfold stepAtLimit
  split
  · rfl
  · split <;> rfl

theorem stepScan_stepIsDue (s : State) : (stepScan s).injection.scan.stepIsDue = false := by
  cases hdue : s.injection.scan.stepIsDue with
  | false => rwa [stepScan_of_not_due hdue]
  | true =>
    unfold stepScan
    split
    · simp only [State.setInjection_injection]
      split
      · rfl
      · exact stepAtLimit_stepIsDue _ _ _
    · next hno =>
      exfalso
      revert hdue
      cases hscan : s.injection.scan with
      | off => simp [Scan.stepIsDue]
      | done a => simp [Scan.stepIsDue]
      | running a fires due =>
        rintro (rfl : due = true)
        exact hno _ _ hscan

/-- After a drain no Stopping run has an empty chain (R34). -/
theorem drain_not_due (s : State) : ¬ ((drain s).run.state = .stopping ∧ ChainEmpty (drain s)) := by
  rw [drain_run]
  split
  · simp
  · next hn =>
    rw [chainEmpty_iff] at hn
    simpa [ChainEmpty] using hn

/-- Settling leaves nothing due (log 11). -/
theorem nothingDue_settleRequest (s : State) : NothingDue (settleRequest s) := by
  refine ⟨fun ch => ?_, fun ch => ?_, ?_, drain_not_due _⟩
  · simpa [settleRequest, makeDue] using killChannels_killDue s ch
  · have htracker : (settleRequest s).tracker = (formCandidates (killChannels s)).tracker := by
      simp [settleRequest, makeDue]
    rw [htracker]
    exact ⟨formCandidates_due _ ch .high, formCandidates_due _ ch .low⟩
  · simpa [settleRequest, makeDue] using stepScan_stepIsDue (formCandidates (killChannels s))

theorem settleRequest_settleRequest (s : State) : settleRequest (settleRequest s) = settleRequest s :=
  settleRequest_of_nothingDue (nothingDue_settleRequest s)

/-! ### Requests -/

/-- Every command a readout request word carries is a readout request (R137). -/
theorem exec_eq_readoutRequest {c : Instr} (h : (encodeReadoutRequest c).isSome = true) :
    ∃ code execute, ∀ s, exec c s = .next (readoutRequest code execute s) := by
  cases c with
  | fetch | release | status | readoutUnassigned => exact ⟨_, _, fun _ => rfl⟩
  | _ => cases h

/-- Every command a control request word carries is a control request (R169). -/
theorem exec_eq_controlRequest {c : Instr} (h : (encodeControlRequest c).isSome = true) :
    ∃ code execute, ∀ s, exec c s = .next (controlRequest code execute s) := by
  cases c with
  | writeItem | readItem | take | cancelTake | readTakeState | start | stop | restart | revive | readFaults
  | clearCauses | setEnables | clearCounts | scanStart | scanStop | freeze | unfreeze | peekInput | readCell
  | writeCell | readColumn | readWindowSlot | readDescriptor | readPayload | readTracker | diagnosticAccept
  | controlUnassigned => exact ⟨_, _, fun _ => rfl⟩
  | _ => cases h

/-- A readout request at an Idle port is the same before and after what is due is settled. -/
theorem readoutRequest_settleRequest {s : State} (h : s.readout.response = none) (code : Nat)
    (execute : State → State × Response) :
    readoutRequest code execute (settleRequest s) = readoutRequest code execute s := by
  rw [readoutRequest_of_idle h, readoutRequest_of_idle (by simpa using h), settleRequest_settleRequest]

/-- A control request at an Idle port is the same before and after what is due is settled. -/
theorem controlRequest_settleRequest {s : State} (h : s.control.response = none) (code : Nat)
    (execute : State → State × Reply) :
    controlRequest code execute (settleRequest s) = controlRequest code execute s := by
  rw [controlRequest_of_idle h, controlRequest_of_idle (by simpa using h), settleRequest_settleRequest]

/-! ### The opening of a crossing -/

/-- A crossing is opened after what is due, with the next index, an aged Injection List and no charge (R21, R178; log 10). -/
theorem openCrossing_of_not_forming {s : State} (h : s.timer.forming = none) :
    openCrossing s
      = { settle s with
          timer := { s.timer with position := some (nextPosition s.timer.position), forming := some Forming.fresh }
          injection :=
            { (settle s).injection with
              fires := agedFires (settle s).injection.fires (nextPosition s.timer.position).index
              charge := Oct.all none } } := by
  have ht : (settle s).timer = s.timer := by simp
  rw [openCrossing_eq, if_neg (by simp [isForming, h])]
  generalize settle s = u at ht
  rw [← ht]
  rfl

/-- Settles O42: the due rows are what a request settles, and settling leaves nothing due. -/
theorem requestsFollowDueEvents : Obligations.RequestsFollowDueEvents := by
  refine ⟨fun c s h => ?_, fun s => ?_, fun s h => ?_, fun s f h => ?_, fun s h => ?_⟩
  · rw [runRows_dueRows]
    rcases h with ⟨hc, hidle⟩ | ⟨hc, hidle⟩
    · obtain ⟨code, execute, hexec⟩ := exec_eq_readoutRequest hc
      rw [hexec, hexec, readoutRequest_settleRequest hidle]
    · obtain ⟨code, execute, hexec⟩ := exec_eq_controlRequest hc
      rw [hexec, hexec, controlRequest_settleRequest hidle]
  · rw [runRows_dueRows]
    exact nothingDue_settleRequest s
  · rw [runRows_dueRows, settleRequest_of_nothingDue h]
  · exact openCrossing_of_forming (by simp [isForming, h])
  · rw [runRows_openingRows, openCrossing_of_not_forming h]
    rfl

end Sys2Proof.Machine
end

section
/-! The column of a crossing start: gain selection, the records written, the fault counts, and what the rest of the crossing start
leaves alone. -/

namespace Sys2Proof.Machine

/-! ### Gain selection and records (R2, R3, R5, R6) -/

/-- The effective source written out by the killed flag and the Channel mode (R2). -/
theorem effectiveSource_eq (s : State) (ch : Channel) :
    effectiveSource s ch
      = if (s.inputs.channels.get ch).killed = true ∨ active s 1 ch.val = 0 then none
        else if active s 1 ch.val = 2 then some .test
        else if active s 1 ch.val = 3 then some .quiet
        else some .normal := by
  unfold effectiveSource channelMode ChannelMode.ofCode
  split_ifs <;> simp_all

/-- The low-gain converter is chosen where the high-gain one is faulted or at the threshold, or the hold runs (R5). -/
theorem selectGain_low {threshold load hold : Nat} {p : CodePair}
    (h : p.hgFault = true ∨ threshold ≤ p.hg.toNat ∨ 0 < hold) :
    selectGain threshold load hold p
      = (.low, if p.hgFault = true then hold else if threshold ≤ p.hg.toNat then load else hold - 1) := by
  unfold selectGain
  split_ifs <;> simp_all

theorem selectGain_high {threshold load hold : Nat} {p : CodePair}
    (h : ¬ (p.hgFault = true ∨ threshold ≤ p.hg.toNat ∨ 0 < hold)) : selectGain threshold load hold p = (.high, hold) := by
  unfold selectGain
  split_ifs <;> simp_all

/-- The record of the low-gain converter (R6). -/
theorem chosenRecord_low (x : Source) (p : CodePair) :
    chosenRecord .low x p
      = ⟨if p.lgFault = true then .fault else if p.lg = 4095#12 then .saturated else .good, p.lg, .low, some x⟩ := by
  simp only [chosenRecord]
  split_ifs <;> rfl

/-- A channel that is Off writes the Off record and clears its hold (R3). -/
theorem writtenRecord_of_off {s : State} {pairs : Oct CodePair} {ch : Channel} (h : effectiveSource s ch = none) :
    writtenRecord s pairs ch = Cell.off ∧ holdAfter s pairs ch = 0 := by
  simp [writtenRecord, holdAfter, h]

/-- A channel with a source writes the record gain selection chooses, and keeps the hold it leaves (R5, R6). -/
theorem writtenRecord_of_source {s : State} {pairs : Oct CodePair} {ch : Channel} {x : Source}
    (h : effectiveSource s ch = some x) :
    writtenRecord s pairs ch = chosenRecord (channelSelection s ch (pairs.get ch)).1 x (pairs.get ch) ∧
      holdAfter s pairs ch = (channelSelection s ch (pairs.get ch)).2 := by
  simp [writtenRecord, holdAfter, h]

/-- A converter fault is reported where a channel that is not Off has a faulted converter (R7). -/
theorem converterFault_iff (s : State) (pairs : Oct CodePair) :
    converterFault s pairs = true ↔
      ∃ ch : Channel, effectiveSource s ch ≠ none ∧ ((pairs.get ch).hgFault = true ∨ (pairs.get ch).lgFault = true) := by
  simp [converterFault, mem_channels, Option.isSome_iff_ne_none]

/-! ### What the column depends on -/

section Congruence

variable {s t : State} (hc : t.inputs.channels = s.inputs.channels) (hs : t.settings = s.settings)

include hs in
theorem active_congr (number index : Nat) : active t number index = active s number index := by
  simp only [active, hs]

include hc hs in
theorem effectiveSource_congr (ch : Channel) : effectiveSource t ch = effectiveSource s ch := by
  rw [effectiveSource_eq, effectiveSource_eq, hc, active_congr hs]

include hc hs in
theorem channelSelection_congr (ch : Channel) (p : CodePair) : channelSelection t ch p = channelSelection s ch p := by
  simp only [channelSelection, switchThreshold, gainHold, activeNat, active_congr hs, hc]

include hc hs in
theorem writtenRecord_congr (pairs : Oct CodePair) : writtenRecord t pairs = writtenRecord s pairs := by
  funext ch
  simp only [writtenRecord, effectiveSource_congr hc hs, channelSelection_congr hc hs]

include hc hs in
theorem holdAfter_congr (pairs : Oct CodePair) (ch : Channel) : holdAfter t pairs ch = holdAfter s pairs ch := by
  simp only [holdAfter, effectiveSource_congr hc hs, channelSelection_congr hc hs]

include hs in
theorem killCount_congr (ch : Channel) : killCount t ch = killCount s ch := by
  simp only [killCount, activeNat, active_congr hs]

include hc hs in
theorem channelAfter_congr (pairs : Oct CodePair) : channelAfter t pairs = channelAfter s pairs := by
  funext ch
  simp only [channelAfter, writtenRecord_congr hc hs, holdAfter_congr hc hs, killCount_congr hs, hc]

include hc hs in
theorem converterFault_congr (pairs : Oct CodePair) : converterFault t pairs = converterFault s pairs := by
  simp only [converterFault, effectiveSource_congr hc hs]

include hs in
theorem isGapCrossing_congr (ht : t.timer = s.timer) : isGapCrossing t = isGapCrossing s := by
  have hstart : gapStart t = gapStart s := congrArg Int.toNat (active_congr hs _ _)
  have hend : gapEnd t = gapEnd s := congrArg Int.toNat (active_congr hs _ _)
  have hnumber : crossingNumber t = crossingNumber s := by simp only [crossingNumber, ht]
  simp only [isGapCrossing, hstart, hend, hnumber]

include hc hs in
theorem pipelineAfter_congr (hp : t.pipeline = s.pipeline) (ht : t.timer = s.timer) (pairs : Oct CodePair) (p : Position) :
    pipelineAfter t pairs p = pipelineAfter s pairs p := by
  simp only [pipelineAfter, columnOf, writtenRecord_congr hc hs, isGapCrossing_congr hs ht, injectedHere, hp, ht]

end Congruence

/-! ### The column write (R11, R17) -/

theorem writeColumn_of_frozen {s : State} (h : s.pipeline.frozen = true) (pairs : Oct CodePair) :
    writeColumn pairs s = s := by
  unfold writeColumn
  split
  · rfl
  · exact if_pos h

theorem writeColumn_of_position {s : State} {p : Position} (hp : s.timer.position = some p)
    (hf : s.pipeline.frozen = false) (pairs : Oct CodePair) :
    writeColumn pairs s
      = reportIf (converterFault s pairs) .converterFault
          ((s.setPipeline (pipelineAfter s pairs p)).setInputs
            { s.inputs with channels := Oct.ofFn (channelAfter s pairs) }) := by
  simp [writeColumn, hp, hf]

theorem updateTowers_of_frozen {s : State} (h : s.pipeline.frozen = true) : updateTowers s = s := by
  unfold updateTowers
  split
  · rfl
  · exact if_pos h

theorem accumulatePedestals_of_frozen {s : State} (h : s.pipeline.frozen = true) (pairs : Oct CodePair) :
    accumulatePedestals pairs s = s := by
  unfold accumulatePedestals
  split
  · rfl
  · exact if_pos h

/-- The slot of a column holds the column and its index after the write (R11). -/
theorem storedColumn_pipelineAfter (s : State) (pairs : Oct CodePair) (p : Position) :
    storedColumn (pipelineAfter s pairs p) (p.index % 256) = ⟨columnOf s pairs p, some p.index⟩ := by
  rw [← columnSlot_natCast]
  exact Memory.read_write_self _ (by simp [StoredColumn.empty])

/-- The write of a column leaves every other slot alone (R11). -/
theorem storedColumn_pipelineAfter_of_ne (s : State) (pairs : Oct CodePair) (p : Position) {slot : Nat}
    (h : slot ≠ p.index % 256) : storedColumn (pipelineAfter s pairs p) slot = storedColumn s.pipeline slot := by
  rw [← columnSlot_natCast] at h
  exact Memory.read_write_of_ne _ _ _ h

/-! ### The monitor over a crossing start -/

/-- The monitor's flag and count of one cause and its enables are the same. -/
def Monitor.SameFor (c : Cause) (m n : Monitor) : Prop :=
  n.flags.getLsbD c.bit = m.flags.getLsbD c.bit ∧ n.counts.get c = m.counts.get c ∧ n.enables = m.enables

theorem Monitor.SameFor.refl (c : Cause) (m : Monitor) : m.SameFor c m := ⟨rfl, rfl, rfl⟩

theorem Monitor.SameFor.trans {c : Cause} {m n o : Monitor} (h : m.SameFor c n) (k : n.SameFor c o) : m.SameFor c o :=
  ⟨k.1.trans h.1, k.2.1.trans h.2.1, k.2.2.trans h.2.2⟩

/-- A report of another cause leaves a cause alone (R181). -/
theorem Monitor.ReportsAtMost.sameFor {c d : Cause} {m n : Monitor} (h : m.ReportsAtMost d n) (hne : c ≠ d) :
    m.SameFor c n := by
  rcases h with rfl | rfl
  · exact SameFor.refl c _
  · exact ⟨by simp [Monitor.occurrence_flag, hne], by simp [CauseCounts.get_bump, hne], rfl⟩

theorem reportTowers_sameFor {c : Cause} (hne : c ≠ .towerInvalid) (s : State) :
    s.monitor.SameFor c (reportTowers s).monitor :=
  foldl_keeps (P := fun u => s.monitor.SameFor c u.monitor)
    (fun u _ hu => hu.trans ((reportIf_reports _ _ u).sameFor hne)) _ (Monitor.SameFor.refl c _)

/-! ### The crossing start around the column write -/

/-- The state a crossing start writes its column on: the crossing entered, the responses that are over ended, the code pairs
delivered. -/
def deliveredCrossing (pairs : Oct CodePair) (s : State) : State :=
  deliverPairs pairs (endResponse .control (endResponse .readout (enterCrossing s)))

/-- The state a crossing start gives the event path: the column written, summed and accumulated. -/
def sampledCrossing (pairs : Oct CodePair) (s : State) : State :=
  accumulatePedestals pairs (reportTowers (updateTowers (writeColumn pairs (deliveredCrossing pairs s))))

theorem startCrossing_eq (pairs : Oct CodePair) (s : State) :
    startCrossing pairs s
      = closeCrossing (sendUplink (drain (sendWords (processEvents (sampledCrossing pairs s))))) := rfl

/-- The event path at a crossing start reports LateCapture and Truncated alone. -/
theorem processEvents_sameFor {c : Cause} (hlate : c ≠ .lateCapture) (htrunc : c ≠ .truncated) (s : State) :
    s.monitor.SameFor c (processEvents s).monitor := by
  have h := ((beginCapture_reports s).sameFor hlate).trans ((beginReconstruction_reports (beginCapture s)).sameFor htrunc)
  simpa [processEvents] using h

/-- After the column write a crossing start reports TowerInvalid, LateCapture and Truncated alone. -/
theorem startCrossing_sameFor (pairs : Oct CodePair) (s : State) :
    (writeColumn pairs (deliveredCrossing pairs s)).monitor.SameFor .converterFault (startCrossing pairs s).monitor := by
  have htowers := reportTowers_sameFor (c := .converterFault) (by decide)
    (updateTowers (writeColumn pairs (deliveredCrossing pairs s)))
  have hevents := processEvents_sameFor (c := .converterFault) (by decide) (by decide) (sampledCrossing pairs s)
  rw [startCrossing_eq]
  simp only [updateTowers_frame, sampledCrossing, accumulatePedestals_frame] at htowers hevents
  simpa [sampledCrossing] using htowers.trans hevents

@[simp] theorem beginCapture_position (s : State) :
    (beginCapture s).timer.position = s.timer.position ∧ (beginCapture s).timer.sync = s.timer.sync := by
  unfold beginCapture
  split
  · exact ⟨rfl, rfl⟩
  · dsimp only
    split <;> simp [markCapture, updateForming]

@[simp] theorem beginReconstruction_position (s : State) :
    (beginReconstruction s).timer.position = s.timer.position ∧ (beginReconstruction s).timer.sync = s.timer.sync := by
  unfold beginReconstruction
  split
  · split <;> simp [markLook]
  · exact ⟨rfl, rfl⟩

/-- The event path takes entries from the queue and leaves its counters alone. -/
theorem processEvents_queue (s : State) :
    (processEvents s).queue = { s.queue with entries := (processEvents s).queue.entries } := by
  have h : (processEvents s).queue = (beginCapture s).queue := by simp [processEvents]
  rw [h]
  unfold beginCapture
  split
  · rfl
  · dsimp only
    split <;> simp

/-- What is in place when the column is written: the code pairs delivered, everything the column reads as it was entered. -/
theorem deliveredCrossing_frame (pairs : Oct CodePair) (s : State) :
    (deliveredCrossing pairs s).inputs = { (enterCrossing s).inputs with pairs := some pairs } ∧
    (deliveredCrossing pairs s).timer = (enterCrossing s).timer ∧
    (deliveredCrossing pairs s).run = (enterCrossing s).run ∧
    (deliveredCrossing pairs s).pipeline = (enterCrossing s).pipeline ∧
    (deliveredCrossing pairs s).towers = (enterCrossing s).towers ∧
    (deliveredCrossing pairs s).queue = (enterCrossing s).queue ∧
    (deliveredCrossing pairs s).settings = (enterCrossing s).settings ∧
    (deliveredCrossing pairs s).tracker = (enterCrossing s).tracker ∧
    (deliveredCrossing pairs s).injection = (enterCrossing s).injection ∧
    (deliveredCrossing pairs s).monitor = (enterCrossing s).monitor := by
  refine ⟨?_, ?_, ?_, ?_, ?_, ?_, ?_, ?_, ?_, ?_⟩ <;> simp [deliveredCrossing, deliverPairs]

/-- What a crossing start leaves alone: the timer but for the crossing being closed, the settings, the injection, the event
counters, the waiting commands. -/
theorem startCrossing_frame (pairs : Oct CodePair) (s : State) :
    (startCrossing pairs s).timer = { (enterCrossing s).timer with forming := none } ∧
    (startCrossing pairs s).settings = (enterCrossing s).settings ∧
    (startCrossing pairs s).injection = (enterCrossing s).injection ∧
    (startCrossing pairs s).queue
      = { (enterCrossing s).queue with entries := (startCrossing pairs s).queue.entries } ∧
    (startCrossing pairs s).pending = s.pending := by
  obtain ⟨-, htimer, -, -, -, hqueue, hsettings, -, hinjection, -⟩ := deliveredCrossing_frame pairs s
  refine ⟨?_, ?_, ?_, ?_, ?_⟩
  · simp [startCrossing_eq, closeCrossing, processEvents, sampledCrossing, htimer]
  · simp [startCrossing_eq, sampledCrossing, hsettings]
  · simp [startCrossing_eq, sampledCrossing, hinjection]
  · have h := processEvents_queue (sampledCrossing pairs s)
    simpa [startCrossing_eq, sampledCrossing, hqueue] using h
  · simp [startCrossing, sampleCrossing]

/-- A crossing start changes the run state alone of the run, and that only where a Stopping run drains (R34). -/
theorem startCrossing_run (pairs : Oct CodePair) (s : State) :
    (startCrossing pairs s).run = { (enterCrossing s).run with state := (startCrossing pairs s).run.state } ∧
      ((enterCrossing s).run.state ≠ .stopping → (startCrossing pairs s).run = (enterCrossing s).run) := by
  obtain ⟨-, -, hrun, -⟩ := deliveredCrossing_frame pairs s
  have hdrain : (startCrossing pairs s).run = (drain (sendWords (processEvents (sampledCrossing pairs s)))).run := by
    simp [startCrossing_eq]
  have hbefore : (sendWords (processEvents (sampledCrossing pairs s))).run = (enterCrossing s).run := by
    simp [sampledCrossing, hrun]
  rw [hdrain, drain_run, hbefore]
  split
  · next h => exact ⟨rfl, fun hn => absurd h.1 hn⟩
  · exact ⟨rfl, fun _ => rfl⟩

/-- The column write alone decides the inputs and the pipeline after a crossing start. -/
theorem startCrossing_inputs_pipeline (pairs : Oct CodePair) (s : State) :
    (startCrossing pairs s).inputs = (writeColumn pairs (deliveredCrossing pairs s)).inputs ∧
      (startCrossing pairs s).pipeline = (writeColumn pairs (deliveredCrossing pairs s)).pipeline := by
  simp [startCrossing_eq, sampledCrossing]

theorem startCrossing_enables (pairs : Oct CodePair) (s : State) :
    (startCrossing pairs s).monitor.enables = (enterCrossing s).monitor.enables := by
  obtain ⟨-, -, -, -, -, -, -, -, -, hmonitor⟩ := deliveredCrossing_frame pairs s
  obtain ⟨-, -, hafter⟩ := startCrossing_sameFor pairs s
  rw [hafter, (writeColumn_reports pairs _).enables_eq, hmonitor]

theorem writeColumn_pairs (pairs : Oct CodePair) (s : State) : (writeColumn pairs s).inputs.pairs = s.inputs.pairs := by
  unfold writeColumn
  split
  · rfl
  · split
    · rfl
    · simp

/-- While frozen a crossing start leaves the pipeline, the channels, the histories and the tracker alone (R17). -/
theorem startCrossing_of_frozen {s : State} (h : s.pipeline.frozen = true) (pairs : Oct CodePair) :
    (startCrossing pairs s).pipeline = s.pipeline ∧
    (startCrossing pairs s).inputs.channels = (enterCrossing s).inputs.channels ∧
    (startCrossing pairs s).towers = s.towers ∧
    (startCrossing pairs s).tracker = (enterCrossing s).tracker ∧
    (enterCrossing s).monitor.SameFor .converterFault (startCrossing pairs s).monitor := by
  obtain ⟨hinputs, -, -, hpipeline, htowers, -, -, htracker, -, hmonitor⟩ := deliveredCrossing_frame pairs s
  have hf : (deliveredCrossing pairs s).pipeline.frozen = true := by simpa [hpipeline] using h
  have hsampled : sampledCrossing pairs s = reportTowers (deliveredCrossing pairs s) := by
    rw [sampledCrossing, writeColumn_of_frozen hf, updateTowers_of_frozen hf,
      accumulatePedestals_of_frozen (by simpa using hf)]
  have hsame := startCrossing_sameFor pairs s
  rw [writeColumn_of_frozen hf, hmonitor] at hsame
  refine ⟨?_, ?_, ?_, ?_, hsame⟩ <;> simp [startCrossing_eq, hsampled, hinputs, hpipeline, htowers, htracker]

theorem enterCrossing_of_enteredAt {s : State} {p : Position} {f : Forming} (he : EnteredAt s p f) :
    enterCrossing s = s := by
  obtain ⟨hp, hf, hnumber, hdue⟩ := he
  exact enterCrossing_of_entered hp hf hnumber hdue

/-- Unfrozen, a crossing start of an entered crossing writes its column and takes every channel through it (R5, R7, R11, R14). -/
theorem startCrossing_of_unfrozen {s : State} {p : Position} {f : Forming} (he : EnteredAt s p f)
    (hf : s.pipeline.frozen = false) (pairs : Oct CodePair) :
    (startCrossing pairs s).pipeline = pipelineAfter s pairs p ∧
    (startCrossing pairs s).inputs.channels = Oct.ofFn (channelAfter s pairs) ∧
    (reportIf (converterFault s pairs) .converterFault s).monitor.SameFor .converterFault
      (startCrossing pairs s).monitor := by
  have hentered : enterCrossing s = s := enterCrossing_of_enteredAt he
  have hd := deliveredCrossing_frame pairs s
  rw [hentered] at hd
  obtain ⟨hinputs, htimer, -, hpipeline, -, -, hsettings, -, -, hmonitor⟩ := hd
  have hchannels : (deliveredCrossing pairs s).inputs.channels = s.inputs.channels := by rw [hinputs]
  have hwrite := writeColumn_of_position (s := deliveredCrossing pairs s) (p := p) (by rw [htimer]; exact he.1)
    (by rw [hpipeline]; exact hf) pairs
  rw [pipelineAfter_congr hchannels hsettings hpipeline htimer, channelAfter_congr hchannels hsettings,
    converterFault_congr hchannels hsettings] at hwrite
  obtain ⟨hi, hp⟩ := startCrossing_inputs_pipeline pairs s
  refine ⟨by rw [hp, hwrite]; simp, by rw [hi, hwrite]; simp, ?_⟩
  have hsame := startCrossing_sameFor pairs s
  rw [hwrite] at hsame
  cases hfault : converterFault s pairs <;> simpa [hfault, hmonitor] using hsame

/-! ### The obligation -/

/-- The metadata of the column of an entered crossing (R10, R25). -/
theorem columnOf_eq {s : State} {p : Position} {f : Forming} (he : EnteredAt s p f) (pairs : Oct CodePair) :
    columnOf s pairs p
      = ⟨Oct.ofFn (writtenRecord s pairs), BitVec.ofNat 12 p.number, p.turnCount.setWidth 12,
          decide (gapStart s ≤ p.number ∧ p.number ≤ gapEnd s), f.injected⟩ := by
  simp [columnOf, isGapCrossing, crossingNumber, injectedHere, he.1, he.2.1]

/-- The ConverterFault of a column sets its flag and raises its count, saturating (R7, R181). -/
theorem reportIf_converterFault_true {s : State} {b : Bool} (hb : b = true) :
    (reportIf b .converterFault s).monitor.flags.getLsbD 8 = true ∧
      (reportIf b .converterFault s).monitor.counts.converterFault = satInc 65535 s.monitor.counts.converterFault := by
  subst hb
  refine ⟨?_, rfl⟩
  have h := Monitor.occurrence_flag s.monitor .converterFault .converterFault
  simpa [Cause.bit] using h

/-- A channel after its column is written, by its source and the gain selection (R2, R3, R5, R6). -/
theorem channelAfter_of_source {s : State} {pairs : Oct CodePair} {ch : Channel} {x : Source}
    (h : effectiveSource s ch = some x) :
    if (pairs.get ch).hgFault = true ∨ switchThreshold s ch ≤ (pairs.get ch).hg.toNat ∨
        0 < (s.inputs.channels.get ch).hold then
      writtenRecord s pairs ch
        = ⟨if (pairs.get ch).lgFault = true then .fault else if (pairs.get ch).lg = 4095#12 then .saturated else .good,
            (pairs.get ch).lg, .low, some x⟩ ∧
      (channelAfter s pairs ch).hold
        = if (pairs.get ch).hgFault = true then (s.inputs.channels.get ch).hold
          else if switchThreshold s ch ≤ (pairs.get ch).hg.toNat then gainHold s ch
          else (s.inputs.channels.get ch).hold - 1
    else
      writtenRecord s pairs ch = ⟨.good, (pairs.get ch).hg, .high, some x⟩ ∧
      (channelAfter s pairs ch).hold = (s.inputs.channels.get ch).hold := by
  obtain ⟨hrecord, hhold⟩ := writtenRecord_of_source (pairs := pairs) h
  rw [channelSelection] at hrecord hhold
  split
  · next hlow =>
    rw [selectGain_low hlow] at hrecord hhold
    exact ⟨hrecord.trans (chosenRecord_low x _), hhold⟩
  · next hhigh =>
    rw [selectGain_high hhigh] at hrecord hhold
    exact ⟨hrecord, hhold⟩

theorem exec_crossingStart (pairs : Oct CodePair) (s : State) :
    exec (.crossingStart pairs) s = .next (startCrossing pairs s) := rfl

/-- Settles O15: the column write decides the pipeline and the channels, the rest of the crossing start leaves them alone. -/
theorem crossingStartWritesColumn : Obligations.CrossingStartWritesColumn := by
  intro pairs s p f he source
  have hsource : ∀ ch, source ch = effectiveSource s ch := fun ch => (effectiveSource_eq s ch).symm
  have hentered : enterCrossing s = s := enterCrossing_of_enteredAt he
  have hframe := startCrossing_frame pairs s
  have hrun := startCrossing_run pairs s
  have hd := deliveredCrossing_frame pairs s
  rw [hentered] at hframe hrun hd
  obtain ⟨htimer, hsettings, hinjection, hqueue, hpending⟩ := hframe
  have hpairs : (startCrossing pairs s).inputs.pairs = some pairs := by
    rw [(startCrossing_inputs_pipeline pairs s).1, writeColumn_pairs, hd.1]
  have henables : (startCrossing pairs s).monitor.enables = s.monitor.enables := by
    rw [startCrossing_enables, hentered]
  refine ⟨_, exec_crossingStart pairs s, hpairs, htimer, hsettings, hinjection, henables, hqueue, hrun.1, hrun.2, hpending,
    fun hf => ?_, fun hf => ?_⟩
  · obtain ⟨hpipeline, hchannels, htowers, htracker, hflag, hcount, -⟩ := startCrossing_of_frozen hf pairs
    rw [hentered] at hchannels htracker hflag hcount
    exact ⟨hpipeline, hchannels, htowers, htracker, hflag, hcount⟩
  · obtain ⟨hpipeline, hchannels, hflag, hcount, -⟩ := startCrossing_of_unfrozen he hf pairs
    rw [hpipeline, hchannels]
    refine ⟨hf, rfl, fun hany => ?_, fun hnone => ?_, fun slot => storedColumn_pipelineAfter_of_ne s pairs p,
      Oct.ofFn (writtenRecord s pairs), ?_, fun ch => ?_⟩
    · simp only [hsource] at hany
      obtain ⟨hset, hraised⟩ := reportIf_converterFault_true (s := s) ((converterFault_iff s pairs).mpr hany)
      exact ⟨hflag.trans hset, hcount.trans hraised⟩
    · have hno : converterFault s pairs = false := by
        rw [Bool.eq_false_iff, ne_eq, converterFault_iff]
        rintro ⟨ch, hch, hfault⟩
        rw [← hsource] at hch
        simp [hnone ch hch] at hfault
      rw [hno] at hflag hcount
      exact ⟨hflag, hcount⟩
    · rw [storedColumn_pipelineAfter, columnOf_eq he]
    · rw [Oct.get_ofFn, Oct.get_ofFn, hsource]
      refine ⟨rfl, rfl, rfl, ?_⟩
      cases hx : effectiveSource s ch with
      | none => exact writtenRecord_of_off hx
      | some x => exact channelAfter_of_source hx

end Sys2Proof.Machine
end

section
/-! The run state with the guards it holds: the throttle is On in Run alone, the pipeline is frozen in Idle alone. -/

namespace Sys2Proof.Machine

/-! ### Run moves

Every change of the run state but a Start leaves a state other than Idle, and comes with the throttle Off. -/

/-- Run state and throttle stay, or the run state was not Idle and the throttle is Off (R28, R48). -/
def RunMoved (s t : State) : Prop :=
  (t.run.state = s.run.state ∧ t.trigger = s.trigger) ∨ (s.run.state ≠ .idle ∧ t.trigger.throttle = .off)

theorem RunMoved.of_same {s t : State} (hr : t.run.state = s.run.state) (ht : t.trigger = s.trigger) : RunMoved s t :=
  .inl ⟨hr, ht⟩

theorem RunMoved.trans {s t u : State} (h : RunMoved s t) (k : RunMoved t u) : RunMoved s u := by
  rcases h with ⟨hrun, htrigger⟩ | ⟨hrun, hoff⟩
  · unfold RunMoved at k
    rwa [hrun, htrigger] at k
  · rcases k with ⟨-, ktrigger⟩ | ⟨-, koff⟩
    · exact .inr ⟨hrun, ktrigger ▸ hoff⟩
    · exact .inr ⟨hrun, koff⟩

theorem RunMoved.state {s t : State} (h : RunMoved s t) : t.run.state = s.run.state ∨ s.run.state ≠ .idle :=
  h.imp And.left And.left

theorem changeRunState_throttle {r : RunState} (hr : r ≠ .run) (s : State) :
    (changeRunState r s).trigger.throttle = .off := by
  rw [changeRunState_trigger, if_neg hr]

theorem changeRunState_moved {s : State} (hs : s.run.state ≠ .idle) {r : RunState} (hr : r ≠ .run) :
    RunMoved s (changeRunState r s) :=
  .inr ⟨hs, changeRunState_throttle hr s⟩

theorem beginRun_moved {s : State} (hs : s.run.state ≠ .idle) : RunMoved s (beginRun s) := .inr ⟨hs, rfl⟩

theorem loseRun_moved (s : State) : RunMoved s (loseRun s) := by
  unfold loseRun
  split
  · next h => exact changeRunState_moved (by simp [h]) (by simp)
  · exact .of_same rfl rfl

theorem drain_moved (s : State) : RunMoved s (drain s) := by
  unfold drain
  split
  · next h => exact changeRunState_moved (by simp [h.1]) (by simp)
  · exact .of_same rfl rfl

theorem startingRunBegins_moved (s : State) : RunMoved s (startingRunBegins s) := by
  unfold startingRunBegins
  split
  · next h => exact beginRun_moved (by simp [h])
  · exact .of_same rfl rfl

/-- A reported loss moves the run as the loss alone (R30). -/
theorem loseRun_report_moved {s t : State} (h : RunMoved s t) (c : Cause) : RunMoved s (loseRun (report c t)) :=
  (h.trans (.of_same (by simp) (by simp))).trans (loseRun_moved _)

theorem takeMarker_moved (s : State) : RunMoved s (takeMarker s) := by
  unfold takeMarker
  split
  · next p f hp hf =>
    dsimp only
    have hbegin : RunMoved s
        (if decide (s.run.state = .resyncing) then
          beginRun (s.setTimer (timerAtMarker p f (decide (s.run.state = .resyncing))))
        else s.setTimer (timerAtMarker p f (decide (s.run.state = .resyncing)))) := by
      split
      · next h => exact beginRun_moved (by simp [of_decide_eq_true h])
      · exact .of_same rfl rfl
    split
    · exact loseRun_report_moved hbegin _
    · exact hbegin
  · exact .of_same rfl rfl

theorem takeAccept_moved (s : State) : RunMoved s (takeAccept s) := by
  rcases takeAccept_cases s with he | he | he | he | ⟨e, k, -, he⟩ <;> rw [he]
  · exact .of_same rfl rfl
  · exact .of_same rfl rfl
  · exact .of_same rfl rfl
  · exact loseRun_report_moved (.of_same rfl rfl) _
  · exact .of_same rfl rfl

theorem takeLinkError_moved (s : State) : RunMoved s (takeLinkError s) :=
  loseRun_report_moved (.of_same rfl rfl) _

theorem discardWork_run (s : State) :
    (discardWork s).run
      = { s.run with
          discarded :=
            satAdd Config.countLimit s.run.discarded (s.queue.entries.filter fun e => !e.diagnostic).length } := by
  simp [discardWork]

theorem takeResync_moved (s : State) : RunMoved s (takeResync s) := by
  unfold takeResync
  split
  · next h =>
    refine (changeRunState_moved (r := .resyncing) ?_ (by simp)).trans (.of_same ?_ ?_)
    · rcases h with h | h <;> simp [h]
    · rw [discardWork_run]
    · simp
  · exact .of_same rfl rfl

theorem stopRun_moved (s : State) : RunMoved s (stopRun s) := by
  have hdrained (hs : s.run.state ≠ .idle) : RunMoved s (drain (changeRunState .stopping s)) :=
    (changeRunState_moved hs (by simp)).trans (drain_moved _)
  unfold stopRun
  split
  · exact .of_same rfl rfl
  · next h => exact changeRunState_moved (by simp [h]) (by simp)
  · next h => exact hdrained (by simp [h])
  · next h => exact hdrained (by simp [h])
  · next h => exact hdrained (by simp [h])
  · exact .of_same rfl rfl

/-- A Start is answered Done exactly where the part is Idle, Synced and unfrozen with no take Scheduled (R28). -/
theorem startReply_done_iff (s : State) :
    startReply s = .done [] ↔
      s.run.state = .idle ∧ s.timer.sync = .synced ∧ s.pipeline.frozen = false ∧ s.settings.take = .none := by
  unfold startReply
  split_ifs with hrun hsync hfrozen htake
  · simp [hrun]
  · simp [hsync]
  · simp [hfrozen]
  · simp [htake]
  · have hsynced : s.timer.sync = .synced := by
      cases h : s.timer.sync
      · exact absurd h hsync
      · rfl
    have hnone : s.settings.take = .none := by
      cases h : s.settings.take
      · rfl
      · exact absurd h htake
    simpa [hsynced, hnone] using ⟨not_not.mp hrun, eq_false_of_ne_true hfrozen⟩

/-- A Start changes nothing, or takes an Idle part that meets the conditions of R28 to Starting. -/
theorem startRun_cases (s : State) :
    startRun s = s ∨
      (s.run.state = .idle ∧ s.timer.sync = .synced ∧ s.pipeline.frozen = false ∧ s.settings.take = .none ∧
        startRun s = changeRunState .starting s) := by
  unfold startRun
  split
  · next h =>
    obtain ⟨hidle, hsync, hfrozen, htake⟩ := (startReply_done_iff s).mp h
    exact .inr ⟨hidle, hsync, hfrozen, htake, rfl⟩
  · exact .inl rfl

/-! ### The throttle (R48) -/

theorem RunMoved.throttleInRun {s t : State} (h : RunMoved s t) (hs : ThrottleInRun s) : ThrottleInRun t := by
  intro hon
  rcases h with ⟨hrun, htrigger⟩ | ⟨-, hoff⟩
  · rw [hrun]
    exact hs (htrigger ▸ hon)
  · rw [hoff] at hon
    cases hon

theorem throttleInRun_kept : KeptByOperations fun s => s.trigger.throttle = .on → s.run.state = .run where
  powerOnReset _ _ h := by cases h
  restartPart _ _ h := by cases h
  drain s := (drain_moved s).throttleInRun
  startingRunBegins s := (startingRunBegins_moved s).throttleInRun
  takeMarker s := (takeMarker_moved s).throttleInRun
  takeAccept s := (takeAccept_moved s).throttleInRun
  takeLinkError s := (takeLinkError_moved s).throttleInRun
  takeResync s := (takeResync_moved s).throttleInRun
  stopRun s := (stopRun_moved s).throttleInRun
  startRun s h := by
    rcases startRun_cases s with he | ⟨-, -, -, -, he⟩ <;> rw [he]
    · exact h
    · simp [changeRunState_throttle]
  sendUplink s h := by
    unfold sendUplink evaluateThrottle
    by_cases hrun : s.run.state = .run
    · simp [hrun]
    · simpa [hrun] using h

/-! ### The frozen flag (R186) -/

theorem RunMoved.frozenInIdle {s t : State} (h : RunMoved s t) (hp : t.pipeline = s.pipeline)
    (hs : FrozenInIdle s) : FrozenInIdle t := by
  intro hfrozen
  rw [hp] at hfrozen
  exact h.state.elim (fun hrun => hrun.trans (hs hfrozen)) fun hne => absurd (hs hfrozen) hne

theorem frozenInIdle_kept : KeptByOperations fun s => s.pipeline.frozen = true → s.run.state = .idle where
  powerOnReset _ _ h := by cases h
  restartPart _ _ h := by cases h
  drain s := (drain_moved s).frozenInIdle (by simp)
  startingRunBegins s := (startingRunBegins_moved s).frozenInIdle (by simp)
  takeMarker s := (takeMarker_moved s).frozenInIdle (by simp)
  takeAccept s := (takeAccept_moved s).frozenInIdle (by simp)
  takeLinkError s := (takeLinkError_moved s).frozenInIdle (by simp)
  takeResync s := (takeResync_moved s).frozenInIdle (by simp)
  stopRun s := (stopRun_moved s).frozenInIdle (by simp)
  startRun s h := by
    rcases startRun_cases s with he | ⟨-, -, hfrozen, -, he⟩ <;> rw [he]
    · exact h
    · simp [hfrozen]
  writeColumn pairs s h := by
    have hfrozen : (writeColumn pairs s).pipeline.frozen = s.pipeline.frozen := by
      unfold writeColumn
      split
      · rfl
      · split <;> simp [pipelineAfter]
    simpa [hfrozen] using h
  freezePipeline s h := by
    unfold freezePipeline
    split
    · next hidle => exact fun _ => hidle
    · exact h
  unfreezePipeline s h := by
    unfold unfreezePipeline
    split
    · simp
    · exact h
  writeCell _ _ _ _ h := h

/-! ### The obligation -/

/-- Settles O6: a change of the run state comes with the throttle Off, and the one that leaves Idle finds the pipeline
unfrozen. -/
theorem runGuardsKept : Obligations.RunGuardsKept := fun _ _ hthrottle hfrozen hstep =>
  ⟨throttleInRun_kept.step hthrottle hstep, frozenInIdle_kept.step hfrozen hstep⟩

end Sys2Proof.Machine
end

section
/-! What a command can do to the crossing, the settings and the waiting commands, said once: every command is a chain of a few
moves. An invariant that reads the timer is then kept by every step when each move keeps it. -/

namespace Sys2Proof.Machine

/-! ### The moves -/

/-- What the rules of a turn read of the crossing being formed (R22, R24). -/
def Forming.turn (f : Forming) : Bool × Bool := (f.boundaryDue, f.lengthChanged)

/-- The crossing, its turn, the settings and the waiting commands stay; the run state stays or leaves a state other than Idle. -/
structure SameCrossing (s t : State) : Prop where
  position : t.timer.position = s.timer.position
  sync : t.timer.sync = s.timer.sync
  forming : t.timer.forming.map Forming.turn = s.timer.forming.map Forming.turn
  settings : t.settings = s.settings
  pending : t.pending = s.pending
  run : t.run.state = s.run.state ∨ s.run.state ≠ .idle

/-- One move of a command, as far as the crossing, the settings and the waiting commands go. -/
inductive CrossingMove : State → State → Prop
  | same {s t : State} : SameCrossing s t → CrossingMove s t
  | opened (s : State) : CrossingMove s (beginForming s)
  | numbered (s : State) : CrossingMove s (formNumber s)
  | boundary (s : State) : CrossingMove s (takeBoundary s)
  | marker (s : State) : CrossingMove s (takeMarker s)
  | closed (s : State) : CrossingMove s (closeCrossing s)
  | poweredOn (s : State) : CrossingMove s (State.reset.setPending s.pending)
  | restarted (s : State) : CrossingMove s (restartPart s)
  | started (s : State) : CrossingMove s (startRun s)
  | stored (number index : Nat) (value : Word) (s : State) :
      CrossingMove s (s.setSettings (writeItemValue number index value s.settings).1)
  | scheduled (s : State) : CrossingMove s (scheduleTake s)
  | cancelled (s : State) : CrossingMove s (cancelScheduled s)

/-- Any number of moves. -/
abbrev CrossingMoves : State → State → Prop := Relation.ReflTransGen CrossingMove

theorem CrossingMove.pending {s t : State} (h : CrossingMove s t) : t.pending = s.pending := by
  cases h with
  | same h => exact h.pending
  | poweredOn | restarted => rfl
  | _ => simp

theorem CrossingMoves.pending {s t : State} (h : CrossingMoves s t) : t.pending = s.pending := by
  induction h with
  | refl => rfl
  | tail _ hm ih => exact hm.pending.trans ih

/-! ### Operations that leave the crossing alone -/

theorem SameCrossing.refl (s : State) : SameCrossing s s := ⟨rfl, rfl, rfl, rfl, rfl, .inl rfl⟩

theorem SameCrossing.trans {s t u : State} (h : SameCrossing s t) (k : SameCrossing t u) : SameCrossing s u where
  position := k.position.trans h.position
  sync := k.sync.trans h.sync
  forming := k.forming.trans h.forming
  settings := k.settings.trans h.settings
  pending := k.pending.trans h.pending
  run := by
    rcases h.run with hr | hne
    · have hk := k.run
      rwa [hr] at hk
    · exact .inr hne

/-- An operation that leaves timer, settings, waiting commands and run alone. -/
theorem SameCrossing.of_frame {s t : State} (htimer : t.timer = s.timer := by simp)
    (hsettings : t.settings = s.settings := by simp) (hpending : t.pending = s.pending := by simp)
    (hrun : t.run = s.run := by simp) : SameCrossing s t :=
  ⟨by rw [htimer], by rw [htimer], by rw [htimer], hsettings, hpending, .inl (by rw [hrun])⟩

/-- A change of the run state alone. -/
theorem RunMoved.sameCrossing {s t : State} (h : RunMoved s t) (htimer : t.timer = s.timer := by simp)
    (hsettings : t.settings = s.settings := by simp) (hpending : t.pending = s.pending := by simp) : SameCrossing s t :=
  ⟨by rw [htimer], by rw [htimer], by rw [htimer], hsettings, hpending, h.state⟩

/-- A mark on the crossing being formed that leaves its turn alone. -/
theorem SameCrossing.of_mark {s t : State} (f : Forming → Forming) (hf : ∀ x, (f x).turn = x.turn)
    (htimer : t.timer = { s.timer with forming := s.timer.forming.map f }) (hsettings : t.settings = s.settings := by simp)
    (hpending : t.pending = s.pending := by simp) (hrun : t.run = s.run := by simp) : SameCrossing s t where
  position := by rw [htimer]
  sync := by rw [htimer]
  forming := by
    rw [htimer, Option.map_map]
    exact congrArg (Option.map · _) (funext hf)
  settings := hsettings
  pending := hpending
  run := .inl (by rw [hrun])

theorem markFrame_same (s : State) : SameCrossing s (markFrame s) :=
  .of_mark (fun f => { f with frameTaken := true }) (fun _ => rfl) rfl

theorem markCapture_same (s : State) : SameCrossing s (markCapture s) :=
  .of_mark (fun f => { f with captureActed := true }) (fun _ => rfl) rfl

theorem markLook_same (s : State) : SameCrossing s (markLook s) :=
  .of_mark (fun f => { f with reconstructionLooked := true }) (fun _ => rfl) rfl

theorem drain_same (s : State) : SameCrossing s (drain s) := (drain_moved s).sameCrossing

theorem settleRequest_same (s : State) : SameCrossing s (settleRequest s) :=
  (SameCrossing.of_frame (t := makeDue s)).trans (drain_same _)

theorem settle_same (s : State) : SameCrossing s (settle s) :=
  (SameCrossing.of_frame (t := completeDue (makeDue s))).trans (drain_same _)

theorem fireTest_same (s : State) : SameCrossing s (fireTest s) :=
  .of_mark (fun f => { f with injected := true }) (fun _ => rfl) rfl

theorem beginCapture_same (s : State) : SameCrossing s (beginCapture s) := by
  unfold beginCapture
  split
  · exact .refl s
  · next n e rest slot _ =>
    have hclaim : SameCrossing s
        (let u := (s.setQueue { s.queue with entries := rest }).setWindows
          (s.windows ++ [claimedWindow s e slot (windowLate s e n)])
        if windowLate s e n then u else u.setCapture (some ⟨slot, 0⟩)) := by
      dsimp only
      split <;> exact .of_frame
    exact (hclaim.trans (markCapture_same _)).trans .of_frame

theorem beginReconstruction_same (s : State) : SameCrossing s (beginReconstruction s) := by
  cases h : looksForEvent s with
  | false => rw [beginReconstruction_of_not_looks h]; exact .refl s
  | true =>
    rw [beginReconstruction_of_looks h]
    have hevent : SameCrossing s (match reconstructionCandidate s with
        | none => s
        | some w => beginEvent w s) := by
      split
      · exact .refl s
      · exact .of_frame
    exact hevent.trans (markLook_same _)

theorem processEvents_same (s : State) : SameCrossing s (processEvents s) :=
  have hcopy (t : State) : SameCrossing t (advanceReconstruction (copyColumn t)) := .of_frame
  ((beginCapture_same s).trans (beginReconstruction_same _)).trans (hcopy _)

/-! ### The parts of a crossing -/

theorem CrossingMoves.of_same {s t : State} (h : SameCrossing s t) : CrossingMoves s t := .single (.same h)

theorem openCrossing_moves (s : State) : CrossingMoves s (openCrossing s) := by
  rw [openCrossing_eq]
  split
  · exact .refl
  · exact (CrossingMoves.of_same (settle_same s)).tail (.opened _)

theorem enterCrossing_moves (s : State) : CrossingMoves s (enterCrossing s) :=
  ((openCrossing_moves s).tail (.numbered _)).tail (.boundary _)

theorem takeFrame_moves {effect : State → State} (he : ∀ s, SameCrossing s (effect s)) (s : State) :
    CrossingMoves s (takeFrame effect s) := by
  unfold takeFrame
  split
  · exact .refl
  · exact (enterCrossing_moves s).tail (.same ((markFrame_same _).trans (he _)))

theorem startCrossing_moves (pairs : Oct CodePair) (s : State) : CrossingMoves s (startCrossing pairs s) := by
  have hsampled : SameCrossing (enterCrossing s) (sampledCrossing pairs s) := by
    refine .of_frame ?_ ?_ ?_ ?_ <;> simp [sampledCrossing, deliveredCrossing]
  have hdrained : SameCrossing (enterCrossing s) (drain (sendWords (processEvents (sampledCrossing pairs s)))) :=
    ((hsampled.trans (processEvents_same _)).trans .of_frame).trans (drain_same _)
  rw [startCrossing_eq]
  exact ((enterCrossing_moves s).tail (.same (hdrained.trans .of_frame))).tail (.closed _)

/-! ### Requests -/

theorem readoutRequest_moves (code : Nat) {execute : State → State × Response}
    (he : ∀ s, SameCrossing s (execute s).1) (s : State) : CrossingMoves s (readoutRequest code execute s) := by
  unfold readoutRequest
  split
  · exact .of_same .of_frame
  · exact .of_same (((settleRequest_same s).trans (he _)).trans .of_frame)

theorem controlRequest_moves (code : Nat) {execute : State → State × Reply}
    (he : ∀ s, CrossingMoves s (execute s).1) (s : State) : CrossingMoves s (controlRequest code execute s) := by
  unfold controlRequest
  split
  · exact .of_same .of_frame
  · exact ((CrossingMoves.of_same (settleRequest_same s)).trans (he _)).tail (.same .of_frame)

theorem controlRequest_moves_of_same (code : Nat) {execute : State → State × Reply}
    (he : ∀ s, SameCrossing s (execute s).1) (s : State) : CrossingMoves s (controlRequest code execute s) :=
  controlRequest_moves code (fun s => .of_same (he s)) s

theorem reviveEffect_same (channel : BitVec 16) (s : State) : SameCrossing s (reviveEffect channel s).1 := by
  unfold reviveEffect
  split
  · exact .of_frame
  · exact .refl s

theorem writeCellEffect_same (age : BitVec 11) (channel : BitVec 16) (cell : Word) (s : State) :
    SameCrossing s (writeCellEffect age channel cell s).1 := by
  unfold writeCellEffect
  split
  · exact .refl s
  · split
    · exact .of_frame
    · exact .refl s

/-! ### Commands and steps -/

/-- Every command answers a next state, by a chain of moves. -/
theorem exec_moves (c : Instr) (s : State) : ∃ t, exec c s = .next t ∧ CrossingMoves s t := by
  cases c with
  | powerOnReset => exact ⟨_, rfl, .single (.poweredOn s)⟩
  | crossingStart pairs => exact ⟨_, rfl, startCrossing_moves pairs s⟩
  | turnBoundary =>
    refine ⟨_, rfl, ?_⟩
    split
    · exact ((openCrossing_moves s).tail (.numbered _)).tail (.boundary _)
    · exact .refl
  | noneCommand => exact ⟨_, rfl, .refl⟩
  | accept => exact ⟨_, rfl, takeFrame_moves (fun s => (takeAccept_moved s).sameCrossing) s⟩
  | turnMarker =>
    refine ⟨_, rfl, ?_⟩
    split
    · exact .refl
    · exact (openCrossing_moves s).tail (.marker _)
  | testFire => exact ⟨_, rfl, takeFrame_moves fireTest_same s⟩
  | resync => exact ⟨_, rfl, takeFrame_moves (fun s => (takeResync_moved s).sameCrossing) s⟩
  | linkError => exact ⟨_, rfl, takeFrame_moves (fun s => (takeLinkError_moved s).sameCrossing) s⟩
  | autoKill ch => exact ⟨_, rfl, .of_same .of_frame⟩
  | pedestalCandidate ch gain => exact ⟨_, rfl, .of_same .of_frame⟩
  | scanStep => exact ⟨_, rfl, .of_same .of_frame⟩
  | drainComplete => exact ⟨_, rfl, .of_same (drain_same s)⟩
  | injectionRecordAgeOut =>
    refine ⟨_, rfl, ?_⟩
    split
    · exact openCrossing_moves s
    · exact .refl
  | captureBegin =>
    refine ⟨_, rfl, ?_⟩
    split
    · exact (enterCrossing_moves s).tail (.same (beginCapture_same _))
    · exact .refl
  | captureComplete =>
    refine ⟨_, rfl, ?_⟩
    split
    · exact (enterCrossing_moves s).tail
        (.same ((SameCrossing.of_frame (s := enterCrossing s) (t := copyColumn _)).trans (markCapture_same _)))
    · exact .refl
  | reconstructionBegin =>
    refine ⟨_, rfl, ?_⟩
    split
    · exact (enterCrossing_moves s).tail (.same (beginReconstruction_same _))
    · exact .refl
  | reconstructionComplete =>
    refine ⟨_, rfl, ?_⟩
    split
    · exact .of_same .of_frame
    · split
      · exact (openCrossing_moves s).tail (.same .of_frame)
      · exact .refl
  | responseEnd link =>
    refine ⟨_, rfl, ?_⟩
    split
    · exact (openCrossing_moves s).tail (.same .of_frame)
    · exact .refl
  | fetch => exact ⟨_, rfl, readoutRequest_moves _ (fun _ => .of_frame) s⟩
  | release epoch event => exact ⟨_, rfl, readoutRequest_moves _ (fun _ => .of_frame) s⟩
  | status | readoutUnassigned => exact ⟨_, rfl, readoutRequest_moves _ SameCrossing.refl s⟩
  | writeItem item index value => exact ⟨_, rfl, controlRequest_moves _ (fun t => .single (.stored _ _ _ t)) s⟩
  | take => exact ⟨_, rfl, controlRequest_moves _ (fun t => .single (.scheduled t)) s⟩
  | cancelTake => exact ⟨_, rfl, controlRequest_moves _ (fun t => .single (.cancelled t)) s⟩
  | start => exact ⟨_, rfl, controlRequest_moves _ (fun t => .single (.started t)) s⟩
  | stop => exact ⟨_, rfl, controlRequest_moves_of_same _ (fun t => (stopRun_moved t).sameCrossing) s⟩
  | restart => exact ⟨_, rfl, controlRequest_moves _ (fun t => .single (.restarted t)) s⟩
  | revive channel => exact ⟨_, rfl, controlRequest_moves_of_same _ (reviveEffect_same channel) s⟩
  | writeCell age channel cell =>
    exact ⟨_, rfl, controlRequest_moves_of_same _ (writeCellEffect_same age channel cell) s⟩
  | clearCauses causes =>
    exact ⟨_, rfl, controlRequest_moves_of_same _ (fun t => .of_frame (t := Machine.clearCauses _ t)) s⟩
  | setEnables causes =>
    exact ⟨_, rfl, controlRequest_moves_of_same _ (fun t => .of_frame (t := Machine.setEnables _ t)) s⟩
  | clearCounts =>
    exact ⟨_, rfl, controlRequest_moves_of_same _ (fun t => .of_frame (t := Machine.clearCounts t)) s⟩
  | scanStart => exact ⟨_, rfl, controlRequest_moves_of_same _ (fun t => .of_frame (t := startScan t)) s⟩
  | scanStop => exact ⟨_, rfl, controlRequest_moves_of_same _ (fun t => .of_frame (t := stopScan t)) s⟩
  | freeze => exact ⟨_, rfl, controlRequest_moves_of_same _ (fun t => .of_frame (t := freezePipeline t)) s⟩
  | unfreeze => exact ⟨_, rfl, controlRequest_moves_of_same _ (fun t => .of_frame (t := unfreezePipeline t)) s⟩
  | diagnosticAccept age =>
    exact ⟨_, rfl, controlRequest_moves_of_same _ (fun t => .of_frame (t := diagnosticIntake _ t)) s⟩
  | readItem | readTakeState | readFaults | peekInput | readCell | readColumn | readWindowSlot | readDescriptor
  | readPayload | readTracker | controlUnassigned =>
    exact ⟨_, rfl, controlRequest_moves_of_same _ SameCrossing.refl s⟩

/-- Every step keeps what every move keeps, when it does not read the waiting commands. -/
theorem step_keeps_of_moves {P : State → Prop} (hpending : ∀ s v, P s → P (s.setPending v))
    (hmove : ∀ s t, CrossingMove s t → P s → P t) {s t : State} (hs : P s) (hstep : step s = .next t) : P t := by
  cases hq : s.pending with
  | nil =>
    rw [step_nil hq] at hstep
    cases hstep
    exact hs
  | cons c rest =>
    obtain ⟨u, hu, hmoves⟩ := exec_moves c (s.setPending rest)
    rw [step_cons hq, hu] at hstep
    cases hstep
    clear hu
    induction hmoves with
    | refl => exact hpending s rest hs
    | tail _ hm ih => exact hmove _ _ hm ih

/-- Settles O1: the step by its definition, the answer of a command by its chain of moves. -/
theorem stepRunsFrontCommand : Obligations.StepRunsFrontCommand := by
  refine ⟨fun _ _ _ => rfl, fun _ => rfl, fun c s => ?_⟩
  obtain ⟨t, ht, hmoves⟩ := exec_moves c s
  exact ⟨t, ht, hmoves.pending⟩

end Sys2Proof.Machine
end

section
/-! The timer invariants: Synced outside Idle, and the crossing number in its turn. -/

namespace Sys2Proof.Machine

/-! ### The turn length at a boundary (R165) -/

/-- The address of the Turn length (R157, item 48). -/
def turnLengthAddress : Nat := valueAddress 48 0

theorem turnLength_eq (s : State) : turnLength s = (itemValue s.settings.active turnLengthAddress).toNat := rfl

/-- The Turn length is run-locked (R157, R162). -/
theorem turnLength_runLocked : isRunLocked turnLengthAddress = true := by decide

theorem pedestalAddress_ne_turnLength (ch : Channel) (g : Gain) : turnLengthAddress ≠ pedestalAddress ch g := by
  cases g <;> simp only [turnLengthAddress, pedestalAddress, valueAddress] <;> omega

/-- An item whose values include the Turn length is the Turn length itself. -/
theorem mem_itemAddresses_turnLength {item : Nat} (h : turnLengthAddress ∈ itemAddresses item) :
    item = turnLengthAddress := by
  unfold itemAddresses at h
  split at h
  · next hw =>
    subst hw
    exact absurd h (by decide)
  · exact (List.mem_singleton.mp h).symm

/-- Values put in place leave the value at every other address alone. -/
theorem itemValue_foldl_of_notMem (v : Nat → Int) {l : List Nat} {x : Nat} (hx : x ∉ l) (m : List (Nat × Int)) :
    itemValue (l.foldl (fun m a => setItemValue m a (v a)) m) x = itemValue m x := by
  induction l generalizing m with
  | nil => rfl
  | cons a l ih =>
    rw [List.mem_cons, not_or] at hx
    rw [List.foldl_cons, ih hx.2, itemValue_setItemValue_of_ne m _ hx.1]

/-- A take that does not carry the Turn length leaves it alone (R161). -/
theorem producedSet_turnLength {x : Settings} (h : turnLengthAddress ∉ x.touched) :
    itemValue (producedSet x) turnLengthAddress = itemValue x.active turnLengthAddress := by
  refine itemValue_foldl_of_notMem _ (fun hmem => ?_) _
  obtain ⟨item, hitem, haddress⟩ := List.mem_flatMap.mp hmem
  exact h (mem_itemAddresses_turnLength haddress ▸ hitem)

theorem installCandidate_turnLength (ch : Channel) (g : Gain) (s : State) :
    turnLength (installCandidate ch g s) = turnLength s := by
  unfold installCandidate
  dsimp only
  split
  · rfl
  · split
    · simp only [turnLength_eq, State.setSettings_settings, setAccumulator_frame]
      rw [itemValue_setItemValue_of_ne _ _ (pedestalAddress_ne_turnLength ch g)]
    · simp [turnLength_eq]

theorem installCandidates_turnLength (s : State) : turnLength (installCandidates s) = turnLength s :=
  foldl_frame turnLength _ (fun s (p : Channel × Gain) => installCandidate_turnLength p.1 p.2 s) trackerPlaces s

theorem countGeneration_active (m : List (Nat × Int)) (s : State) :
    (countGeneration m s).settings.active = s.settings.active := by
  unfold countGeneration
  split <;> rfl

/-- The steps of a boundary change the turn length by the take alone (R165). -/
theorem settingsBoundary_turnLength (s : State) : turnLength (settingsBoundary s) = turnLength (applyTake s) := by
  rw [turnLength_eq, settingsBoundary, countGeneration_active, ← turnLength_eq, installCandidates_turnLength]

/-- A boundary changes the turn length only by a scheduled take that carries it, which is run-locked (R24, R162). -/
theorem runLocked_of_turnLength_changed {s : State} (h : turnLength (settingsBoundary s) ≠ turnLength s) :
    s.settings.take = .scheduled ∧ s.settings.touched.any isRunLocked = true := by
  rw [settingsBoundary_turnLength, applyTake] at h
  split at h
  · next htake =>
    refine ⟨htake, List.any_eq_true.mpr ⟨turnLengthAddress, ?_, turnLength_runLocked⟩⟩
    by_contra hn
    exact h (by simp only [turnLength_eq, State.setSettings_settings, producedSet_turnLength hn])
  · exact absurd rfl h

/-! ### Take state and touched flags over a boundary (R165) -/

theorem installCandidate_take (ch : Channel) (g : Gain) (s : State) :
    (installCandidate ch g s).settings.take = s.settings.take := by
  unfold installCandidate
  dsimp only
  split
  · rfl
  · split
    · simp
    · simp

theorem countGeneration_take (m : List (Nat × Int)) (s : State) :
    (countGeneration m s).settings.take = s.settings.take := by
  unfold countGeneration
  split <;> rfl

/-- After a boundary no take is scheduled (R165). -/
theorem settingsBoundary_take (s : State) : (settingsBoundary s).settings.take = .none := by
  have hinstall (t : State) : (installCandidates t).settings.take = t.settings.take :=
    foldl_frame (fun t => t.settings.take) _ (fun t (p : Channel × Gain) => installCandidate_take p.1 p.2 t) trackerPlaces t
  rw [settingsBoundary, countGeneration_take, hinstall, applyTake]
  split
  · rfl
  · next hn =>
    cases ht : s.settings.take with
    | none => rfl
    | scheduled => exact absurd ht hn

theorem startingRunBegins_state (s : State) :
    (startingRunBegins s).run.state = if s.run.state = .starting then .run else s.run.state := by
  unfold startingRunBegins
  split <;> rfl

/-! ### What the timer's own moves do -/

/-- A boundary that is due, written out (R22, R24, R29, R165). -/
theorem takeBoundary_of_due {s : State} {p : Position} {f : Forming} (hp : s.timer.position = some p)
    (hf : s.timer.forming = some f) (hdue : f.boundaryDue = true) :
    takeBoundary s
      = (startingRunBegins (settingsBoundary s)).setTimer
          (timerAtBoundary s.timer p f (f.enteredRun || decide (s.run.state = .starting))
            (decide (turnLength (settingsBoundary s) ≠ turnLength s))) := by
  have hlength : turnLength (startingRunBegins (settingsBoundary s)) = turnLength (settingsBoundary s) := by
    simp [turnLength_eq]
  unfold takeBoundary
  rw [hp, hf]
  simp [hdue, hlength]

/-- A marker moves the timer alone, but for the run state (R23, R30, R32). -/
theorem takeMarker_timer {s : State} {p : Position} {f : Forming} (hp : s.timer.position = some p)
    (hf : s.timer.forming = some f) :
    (takeMarker s).timer = timerAtMarker p f (decide (s.run.state = .resyncing)) := by
  unfold takeMarker
  rw [hp, hf]
  dsimp only
  (repeat' split) <;> simp

/-- The counter leaves a crossing as it is, or forms the number of the crossing being formed (R22). -/
theorem formNumber_cases (s : State) :
    formNumber s = s ∨
      ∃ p f, s.timer.position = some p ∧ s.timer.forming = some f ∧ f.numberFormed = false ∧
        (formNumber s).timer
          = { s.timer with
              position := some { p with number := counterNumber s p }
              forming := some { f with numberFormed := true, boundaryDue := counterNumber s p == 0 } } := by
  unfold formNumber
  split
  · next p f hp hf =>
    split
    · exact .inl rfl
    · next hn => exact .inr ⟨p, f, hp, hf, eq_false_of_ne_true hn, rfl⟩
  · exact .inl rfl

/-- A boundary is taken where it is due, and nothing happens elsewhere. -/
theorem takeBoundary_cases (s : State) :
    takeBoundary s = s ∨
      ∃ p f, s.timer.position = some p ∧ s.timer.forming = some f ∧ f.boundaryDue = true := by
  unfold takeBoundary
  split
  · next p f hp hf =>
    split
    · next hdue => exact .inr ⟨p, f, hp, hf, hdue⟩
    · exact .inl rfl
  · exact .inl rfl

/-- A marker acts on the crossing being formed, and nothing happens without one. -/
theorem takeMarker_cases (s : State) :
    takeMarker s = s ∨ ∃ p f, s.timer.position = some p ∧ s.timer.forming = some f := by
  unfold takeMarker
  split
  · next p f hp hf => exact .inr ⟨p, f, hp, hf⟩
  · exact .inl rfl

/-- A state with the same crossing forms a crossing of the same turn. -/
theorem SameCrossing.exists_forming {s t : State} (h : SameCrossing s t) {f : Forming} (hf : t.timer.forming = some f) :
    ∃ g, s.timer.forming = some g ∧ f.boundaryDue = g.boundaryDue ∧ f.lengthChanged = g.lengthChanged := by
  have hforming := h.forming
  rw [hf, Option.map_some, eq_comm, Option.map_eq_some_iff] at hforming
  obtain ⟨g, hg, hturn⟩ := hforming
  exact ⟨g, hg, (congrArg Prod.fst hturn).symm, (congrArg Prod.snd hturn).symm⟩

/-! ### Synced outside Idle (R23) -/

theorem SameCrossing.syncedOutsideIdle {s t : State} (h : SameCrossing s t) (hs : SyncedOutsideIdle s) :
    SyncedOutsideIdle t := by
  obtain ⟨hsync, htake, hlength⟩ := hs
  have hidle : s.run.state = .idle → t.run.state = .idle := fun hi => h.run.elim (fun hr => hr.trans hi) (absurd hi)
  refine ⟨fun hne => ?_, fun ht hl => ?_, fun f hf hc => ?_⟩
  · rw [h.sync]
    exact hsync fun hi => hne (hidle hi)
  · rw [h.settings] at ht hl
    exact hidle (htake ht hl)
  · obtain ⟨g, hg, -, hgf⟩ := h.exists_forming hf
    rw [h.sync]
    exact hlength g hg (hgf ▸ hc)

/-- A boundary unsyncs an Idle part alone, since the take that changes the turn length stands in Idle (R24, R162). -/
theorem takeBoundary_syncedOutsideIdle {s : State} (hs : SyncedOutsideIdle s) : SyncedOutsideIdle (takeBoundary s) := by
  obtain ⟨hsync, htake, hlength⟩ := hs
  rcases takeBoundary_cases s with he | ⟨p, f, hp, hf, hdue⟩
  · rw [he]
    exact ⟨hsync, htake, hlength⟩
  · rw [takeBoundary_of_due hp hf hdue]
    refine ⟨fun hne => ?_, fun ht => ?_, fun g hg hc => ?_⟩
    · have hmoved : s.run.state ≠ .idle := fun hi => hne (by simp [startingRunBegins_state, hi])
      have hsame : turnLength (settingsBoundary s) = turnLength s := by
        by_contra hchanged
        obtain ⟨hscheduled, hlocked⟩ := runLocked_of_turnLength_changed hchanged
        exact hmoved (htake hscheduled hlocked)
      simpa [timerAtBoundary, hsame] using hsync hmoved
    · simp [settingsBoundary_take] at ht
    · obtain rfl : _ = g := Option.some.inj hg
      have hcases : f.lengthChanged = true ∨ turnLength (settingsBoundary s) ≠ turnLength s := by
        simpa [or_comm] using hc
      by_cases hchanged : turnLength (settingsBoundary s) = turnLength s
      · simpa [timerAtBoundary, hchanged] using hlength f hf (hcases.resolve_right (not_not.mpr hchanged))
      · simp [timerAtBoundary, hchanged]

/-- A marker syncs the part, unless the boundary of its crossing has changed the turn length, which an Idle part alone meets
(R23, R24). -/
theorem takeMarker_syncedOutsideIdle {s : State} (hs : SyncedOutsideIdle s) : SyncedOutsideIdle (takeMarker s) := by
  obtain ⟨hsync, htake, hlength⟩ := hs
  rcases takeMarker_cases s with he | ⟨p, f, hp, hf⟩
  · rw [he]
    exact ⟨hsync, htake, hlength⟩
  · have hidle : s.run.state = .idle → (takeMarker s).run.state = .idle := fun hi =>
      (takeMarker_moved s).state.elim (fun hr => hr.trans hi) (absurd hi)
    unfold SyncedOutsideIdle
    rw [takeMarker_timer hp hf]
    refine ⟨fun hne => ?_, fun ht hl => ?_, fun g hg hc => ?_⟩
    · cases hc : f.lengthChanged with
      | false => simp [timerAtMarker, hc]
      | true =>
        have hsynced := hsync fun hi => hne (hidle hi)
        rw [hlength f hf hc] at hsynced
        cases hsynced
    · have hsettings : (takeMarker s).settings = s.settings := by simp
      rw [hsettings] at ht hl
      exact hidle (htake ht hl)
    · obtain rfl : _ = g := Option.some.inj hg
      have hchanged : f.lengthChanged = true := hc
      simp [timerAtMarker, hchanged]

/-- WriteItem leaves the take state alone (R158). -/
theorem writeItemValue_take (number index : Nat) (value : Word) (x : Settings) :
    (writeItemValue number index value x).1.take = x.take := by
  rcases writeItemValue_fst_cases number index value x with h | ⟨item, values, h⟩ <;> rw [h]
  rfl

/-- WriteItem changes nothing while a take is scheduled (R158). -/
theorem writeItemValue_of_scheduled {x : Settings} (h : x.take = .scheduled) (number index : Nat) (value : Word) :
    (writeItemValue number index value x).1 = x := by
  unfold writeItemValue
  split
  · rfl
  · split
    · rfl
    · rw [if_pos h]

/-- A take that carries a run-locked item is scheduled in Idle alone (R162). -/
theorem idle_of_takeReply_scheduled {s : State} (h : takeReply s = .scheduled)
    (hlocked : s.settings.touched.any isRunLocked = true) : s.run.state = .idle := by
  by_contra hne
  unfold takeReply at h
  split at h
  · cases h
  · split at h
    · cases h
    · rw [if_pos ⟨hlocked, hne⟩] at h
      cases h

/-- A reset leaves the part Idle and Unsynced (R26, R35). -/
theorem syncedOutsideIdle_of_reset {t : State} (htimer : t.timer = Timer.reset) (hrun : t.run = RunControl.reset) :
    SyncedOutsideIdle t := by
  unfold SyncedOutsideIdle
  rw [htimer, hrun]
  exact ⟨fun hne => absurd rfl hne, fun _ _ => rfl, fun _ _ _ => rfl⟩

theorem syncedOutsideIdle_move {s t : State} (h : CrossingMove s t) (hs : SyncedOutsideIdle s) : SyncedOutsideIdle t := by
  cases h with
  | same h => exact h.syncedOutsideIdle hs
  | boundary => exact takeBoundary_syncedOutsideIdle hs
  | marker => exact takeMarker_syncedOutsideIdle hs
  | opened =>
    obtain ⟨hsync, htake, -⟩ := hs
    refine ⟨by simpa [beginForming] using hsync, by simpa using htake, fun f hf hc => ?_⟩
    obtain rfl : Forming.fresh = f := Option.some.inj hf
    cases hc
  | numbered =>
    rcases formNumber_cases s with he | ⟨p, f, -, hf, -, htimer⟩
    · rwa [he]
    · obtain ⟨hsync, htake, hlength⟩ := hs
      unfold SyncedOutsideIdle
      rw [htimer]
      refine ⟨by simpa using hsync, by simpa using htake, fun g hg hc => ?_⟩
      obtain rfl : _ = g := Option.some.inj hg
      exact hlength f hf hc
  | closed =>
    obtain ⟨hsync, htake, -⟩ := hs
    exact ⟨hsync, htake, fun f hf => by cases hf⟩
  | poweredOn | restarted => exact syncedOutsideIdle_of_reset rfl rfl
  | started =>
    obtain ⟨hsync, htake, hlength⟩ := hs
    rcases startRun_cases s with he | ⟨-, hsynced, -, hnone, he⟩
    · rw [he]
      exact ⟨hsync, htake, hlength⟩
    · rw [he]
      refine ⟨fun _ => by simpa using hsynced, fun ht => ?_, by simpa using hlength⟩
      simp [hnone] at ht
  | stored number index value =>
    obtain ⟨hsync, htake, hlength⟩ := hs
    refine ⟨hsync, fun ht hl => ?_, hlength⟩
    have hscheduled : s.settings.take = .scheduled := (writeItemValue_take number index value s.settings).symm.trans ht
    rw [State.setSettings_settings, writeItemValue_of_scheduled hscheduled] at hl
    exact htake hscheduled hl
  | scheduled =>
    obtain ⟨hsync, htake, hlength⟩ := hs
    unfold scheduleTake
    split
    · next hreply =>
      have hidle := idle_of_takeReply_scheduled hreply
      exact ⟨hsync, fun _ => hidle, hlength⟩
    · exact ⟨hsync, htake, hlength⟩
  | cancelled =>
    obtain ⟨hsync, -, hlength⟩ := hs
    exact ⟨hsync, fun ht => by simp [cancelScheduled] at ht, hlength⟩

/-- Settles O7: every move keeps the part Synced outside Idle. -/
theorem syncedOutsideIdleKept : Obligations.SyncedOutsideIdleKept := fun _ _ hs hstep =>
  step_keeps_of_moves (P := SyncedOutsideIdle) (fun _ _ h => h) (fun _ _ => syncedOutsideIdle_move) hs hstep

/-! ### Turn lengths are positive (R157) -/

/-- A setting set whose Turn length, where it differs from the default, is positive. -/
def TurnLengthPositive (m : List (Nat × Int)) : Prop := ∀ e ∈ m, e.1 = turnLengthAddress → 0 < e.2

theorem TurnLengthPositive.itemValue_pos {m : List (Nat × Int)} (h : TurnLengthPositive m) :
    0 < itemValue m turnLengthAddress := by
  unfold itemValue
  induction m with
  | nil => decide
  | cons e m ih =>
    rw [Memory.read_cons]
    split
    · next he => exact h e List.mem_cons_self he.symm
    · exact ih fun x hx => h x (List.mem_cons_of_mem _ hx)

theorem TurnLengthPositive.setItemValue {m : List (Nat × Int)} (h : TurnLengthPositive m) {a : Nat} {v : Int}
    (hv : a = turnLengthAddress → 0 < v) : TurnLengthPositive (setItemValue m a v) := by
  intro e he haddress
  rcases Memory.mem_write he with ⟨rfl, -⟩ | hm
  · exact hv haddress
  · exact h e hm haddress

theorem TurnLengthPositive.foldl {β : Type} {a : β → Nat} {v : β → Int} {l : List β}
    (hv : ∀ b ∈ l, a b = turnLengthAddress → 0 < v b) {m : List (Nat × Int)} (h : TurnLengthPositive m) :
    TurnLengthPositive (l.foldl (fun m b => Machine.setItemValue m (a b) (v b)) m) := by
  induction l generalizing m with
  | nil => exact h
  | cons b l ih =>
    exact ih (fun c hc => hv c (List.mem_cons_of_mem _ hc)) (h.setItemValue (hv b List.mem_cons_self))

/-- Both setting sets hold a positive Turn length. -/
def Settings.TurnsPositive (x : Settings) : Prop := TurnLengthPositive x.pending ∧ TurnLengthPositive x.active

theorem Settings.TurnsPositive.producedSet {x : Settings} (h : x.TurnsPositive) : TurnLengthPositive (producedSet x) :=
  TurnLengthPositive.foldl (a := id) (v := itemValue x.pending)
    (fun a _ (ha : a = turnLengthAddress) => ha ▸ h.1.itemValue_pos) h.2

theorem Settings.TurnsPositive.turnLength_pos {s : State} (h : s.settings.TurnsPositive) : 0 < turnLength s := by
  rw [turnLength_eq]
  have := h.2.itemValue_pos
  omega

/-- A value in the range of the Turn length is positive (R157). -/
theorem turnLength_pos_of_inRange {v : Int} (h : valueInRange turnLengthAddress v = true) : 0 < v := by
  have hrange : valueInRange turnLengthAddress v = decide (256 ≤ v ∧ v ≤ 4096) := rfl
  rw [hrange, decide_eq_true_iff] at h
  omega

theorem SettingsInRange.turnsPositive {s : State} (h : SettingsInRange s) : s.settings.TurnsPositive := by
  obtain ⟨hpending, hactive, -⟩ := h
  exact ⟨fun e he ha => turnLength_pos_of_inRange (ha ▸ hpending e he),
    fun e he ha => turnLength_pos_of_inRange (ha ▸ hactive e he)⟩

/-- An item argument that is the Turn length is of the row of the Turn length. -/
theorem number_of_itemArgument_turnLength {row : ItemRow} {index : Nat}
    (h : itemArgument row index = some turnLengthAddress) : row.number = 48 := by
  have haddress : turnLengthAddress = 384 := rfl
  rw [haddress] at h
  unfold itemArgument valueAddress at h
  split at h
  · split at h
    · have := Option.some.inj h; omega
    · cases h
  · split at h
    · have := Option.some.inj h; omega
    · cases h
  · have := Option.some.inj h; omega
  · have := Option.some.inj h; omega

theorem Settings.TurnsPositive.storePending {x : Settings} (h : x.TurnsPositive) (item : Nat)
    {values : List (Nat × Int)} (hv : ∀ v ∈ values, v.1 = turnLengthAddress → 0 < v.2) :
    (storePending x item values).TurnsPositive :=
  ⟨TurnLengthPositive.foldl (a := Prod.fst) hv h.1, h.2⟩

theorem Settings.TurnsPositive.writeWindowGroup {x : Settings} (h : x.TurnsPositive) (value : Word) :
    (writeWindowGroup value x).1.TurnsPositive := by
  refine h.storePending windowAddress fun v hv haddress => ?_
  obtain ⟨p, -, rfl⟩ := List.mem_map.mp hv
  have hwindow : windowAddress + p.2 = turnLengthAddress := haddress
  simp only [windowAddress, turnLengthAddress, valueAddress] at hwindow
  omega

/-- The row of the Turn length (R157). -/
theorem range_of_itemArgument_turnLength {number index : Nat} {row : ItemRow} (hrow : itemRow number = some row)
    (h : itemArgument row index = some turnLengthAddress) : row.low = 256 ∧ row.high = 4096 := by
  have hnumber : row.number = number := by simpa using List.find?_some hrow
  rw [number_of_itemArgument_turnLength h] at hnumber
  subst hnumber
  obtain rfl : _ = row := Option.some.inj hrow
  exact ⟨rfl, rfl⟩

theorem clampTo_low_or_high (low high v : Int) : low ≤ clampTo low high v ∨ clampTo low high v = high := by
  unfold clampTo
  split
  · exact .inl le_rfl
  · split
    · exact .inr rfl
    · next hlow _ => exact .inl (not_lt.mp hlow)

/-- WriteItem stores a positive Turn length (R158). -/
theorem Settings.TurnsPositive.writeItemValue {x : Settings} (h : x.TurnsPositive) (number index : Nat) (value : Word) :
    (writeItemValue number index value x).1.TurnsPositive := by
  unfold Machine.writeItemValue
  split
  · exact h
  · next row hrow =>
    split
    · exact h
    · next item hitem =>
      have hstore {v : Int} (hv : row.low ≤ v ∨ v = row.high) : (Machine.storePending x item [(item, v)]).TurnsPositive := by
        refine h.storePending item fun w hw haddress => ?_
        obtain rfl := List.mem_singleton.mp hw
        obtain ⟨hlow, hhigh⟩ := range_of_itemArgument_turnLength hrow (hitem.trans (congrArg some haddress))
        dsimp only
        omega
      split
      · exact h
      · split
        · exact h.writeWindowGroup value
        · split
          · next hrange => exact hstore (.inl hrange.1)
          · split
            · exact h
            · exact hstore (clampTo_low_or_high _ _ _)

theorem turnsPositive_kept : KeptByOperations fun s => s.settings.TurnsPositive where
  powerOnReset _ _ := ⟨fun _ he => by simp [State.reset] at he, fun _ he => by simp [State.reset] at he⟩
  restartPart _ h := h
  applyTake s h := by
    unfold applyTake
    split
    · exact ⟨h.1, h.producedSet⟩
    · exact h
  installCandidate ch g s h := by
    unfold installCandidate
    dsimp only
    split
    · exact h
    · split
      · exact ⟨h.1, h.2.setItemValue fun ha => absurd ha.symm (pedestalAddress_ne_turnLength ch g)⟩
      · simpa using h
  countGeneration m s h := by
    unfold countGeneration
    split <;> exact h
  writeItem number index value s h := h.writeItemValue number index value
  scheduleTake s h := by
    unfold scheduleTake
    split <;> exact h
  cancelScheduled _ h := h

/-! ### The crossing number in its turn (R22) -/

theorem numberInTurn_of_number {t : State} {p : Position} (hp : t.timer.position = some p) (hlt : p.number < turnLength t)
    (hdue : ∀ f ∈ t.timer.forming, f.boundaryDue = true → p.number = 0) : NumberInTurn t := by
  refine ⟨fun _ => by rw [hp]; rfl, fun q hq => ?_⟩
  rw [hp] at hq
  obtain rfl : p = q := Option.some.inj hq
  exact ⟨hlt, hdue⟩

/-- After a reset there is neither a crossing nor a number (R26). -/
theorem numberInTurn_of_reset {t : State} (h : t.timer = Timer.reset) : NumberInTurn t := by
  unfold NumberInTurn TimerWhole
  rw [h]
  simp [Timer.reset]

/-- Turn length and position stay, and a crossing that is being formed is due no other boundary. -/
theorem numberInTurn_of_same {s t : State} (hs : NumberInTurn s) (hlength : turnLength t = turnLength s)
    (hposition : t.timer.position = s.timer.position)
    (hforming : ∀ f ∈ t.timer.forming, ∃ g ∈ s.timer.forming, f.boundaryDue = g.boundaryDue) : NumberInTurn t := by
  obtain ⟨hwhole, hnumber⟩ := hs
  refine ⟨fun hf => ?_, fun p hp => ?_⟩
  · obtain ⟨f, hf⟩ := Option.isSome_iff_exists.mp hf
    obtain ⟨g, hg, -⟩ := hforming f hf
    rw [hposition]
    exact hwhole (Option.isSome_of_mem hg)
  · rw [hposition] at hp
    obtain ⟨hlt, hdue⟩ := hnumber p hp
    refine ⟨hlength ▸ hlt, fun f hf hb => ?_⟩
    obtain ⟨g, hg, hfg⟩ := hforming f hf
    exact hdue g hg (hfg ▸ hb)

/-- The counter's number lies in the turn (R22). -/
theorem counterNumber_lt {s : State} {p : Position} (h : p.number < turnLength s) : counterNumber s p < turnLength s := by
  unfold counterNumber
  split
  · omega
  · split <;> omega

/-- The next crossing starts from a number in the turn (R22, R26). -/
theorem nextPosition_number_lt {s : State} (hpos : 0 < turnLength s)
    (h : ∀ p ∈ s.timer.position, p.number < turnLength s) : (nextPosition s.timer.position).number < turnLength s := by
  cases hp : s.timer.position with
  | none => exact hpos
  | some p => exact h p hp

theorem numberInTurn_move {s t : State} (h : CrossingMove s t) (hx : s.settings.TurnsPositive)
    (hs : NumberInTurn s) : NumberInTurn t := by
  have hsame {u : State} (hlength : turnLength u = turnLength s) (htimer : u.timer = s.timer) : NumberInTurn u :=
    numberInTurn_of_same hs hlength (by rw [htimer]) (fun f hf => ⟨f, htimer ▸ hf, rfl⟩)
  cases h with
  | same h =>
    refine numberInTurn_of_same hs (by rw [turnLength_eq, h.settings, turnLength_eq]) h.position fun f hf => ?_
    obtain ⟨g, hg, hfg, -⟩ := h.exists_forming hf
    exact ⟨g, hg, hfg⟩
  | opened =>
    refine numberInTurn_of_number (p := nextPosition s.timer.position) rfl
      (nextPosition_number_lt hx.turnLength_pos fun p hp => (hs.2 p hp).1) fun f hf hdue => ?_
    obtain rfl : Forming.fresh = f := Option.some.inj hf
    cases hdue
  | numbered =>
    rcases formNumber_cases s with he | ⟨p, f, hp, hf, -, htimer⟩
    · rwa [he]
    · obtain ⟨hlt, -⟩ := hs.2 p hp
      have hlength : turnLength (formNumber s) = turnLength s := by simp [turnLength_eq]
      refine numberInTurn_of_number (p := { p with number := counterNumber s p }) (by rw [htimer])
        (hlength ▸ counterNumber_lt hlt) fun g hg hdue => ?_
      rw [htimer] at hg
      obtain rfl : _ = g := Option.some.inj hg
      simpa using hdue
  | boundary =>
    have hpos := (turnsPositive_kept.takeBoundary hx).turnLength_pos
    rcases takeBoundary_cases s with he | ⟨p, f, hp, hf, hdue⟩
    · rwa [he]
    · have hzero : p.number = 0 := (hs.2 p hp).2 f hf hdue
      rw [takeBoundary_of_due hp hf hdue] at hpos ⊢
      exact numberInTurn_of_number rfl (hzero.symm ▸ hpos) fun _ _ _ => hzero
  | marker =>
    rcases takeMarker_cases s with he | ⟨p, f, hp, hf⟩
    · rwa [he]
    · have hlength : turnLength (takeMarker s) = turnLength s := by simp [turnLength_eq]
      exact numberInTurn_of_number (by rw [takeMarker_timer hp hf]; rfl) (hlength ▸ hx.turnLength_pos) fun _ _ _ => rfl
  | closed => exact numberInTurn_of_same hs rfl rfl fun f hf => by simp [closeCrossing] at hf
  | poweredOn | restarted => exact numberInTurn_of_reset rfl
  | started => exact hsame (by simp [turnLength_eq]) (by simp)
  | stored number index value =>
    refine hsame ?_ (by simp)
    rcases writeItemValue_fst_cases number index value s.settings with he | ⟨item, values, he⟩ <;>
      simp [turnLength_eq, he, storePending]
  | scheduled =>
    refine hsame ?_ (by simp)
    unfold scheduleTake
    split <;> rfl
  | cancelled => exact hsame rfl (by simp)

theorem turnsPositive_move {s t : State} (h : CrossingMove s t) (hx : s.settings.TurnsPositive) :
    t.settings.TurnsPositive := by
  cases h with
  | same h => rwa [h.settings]
  | boundary => exact turnsPositive_kept.takeBoundary hx
  | poweredOn => exact turnsPositive_kept.powerOnReset s hx
  | restarted => exact turnsPositive_kept.restartPart s hx
  | stored => exact turnsPositive_kept.writeItem _ _ _ s hx
  | scheduled => exact turnsPositive_kept.scheduleTake s hx
  | cancelled => exact turnsPositive_kept.cancelScheduled s hx
  | opened | numbered | marker | closed | started => simpa using hx

/-- Settles O8: every move keeps the crossing number in its turn, as long as the turn lengths of both setting sets are positive. -/
theorem numberInTurnKept : Obligations.NumberInTurnKept := fun _ _ hrange hs hstep =>
  (step_keeps_of_moves (P := fun s => s.settings.TurnsPositive ∧ NumberInTurn s) (fun _ _ h => h)
    (fun _ _ hm h => ⟨turnsPositive_move hm h.1, numberInTurn_move hm h.1 h.2⟩)
    ⟨SettingsInRange.turnsPositive hrange, hs⟩ hstep).2

end Sys2Proof.Machine
end

section
/-! The Accept Queue in order: the run's entries numbered in turn, in the current epoch, behind the diagnostic entries. -/

namespace Sys2Proof.Machine

/-! ### Entries of the run and diagnostic entries -/

/-- The entries of the run in a queue. -/
def runPart (entries : List Entry) : List Entry := entries.filter fun e => !e.diagnostic

/-- The diagnostic entries of a queue. -/
def diagnosticPart (entries : List Entry) : List Entry := entries.filter fun e => e.diagnostic

@[simp] theorem runPart_nil : runPart [] = [] := rfl

/-- The last `n` event numbers handed out before the event counter (R73). -/
def numbersBefore (counter : BitVec 24) (n : Nat) : List (BitVec 24) :=
  (List.range n).map fun i => counter - BitVec.ofNat 24 (n - i)

/-- One more number is handed out (R73). -/
theorem numbersBefore_succ (counter : BitVec 24) (n : Nat) :
    numbersBefore (counter + 1) (n + 1) = numbersBefore counter n ++ [counter] := by
  unfold numbersBefore
  rw [List.range_succ, List.map_append]
  congr 1
  · refine List.map_congr_left fun i hi => ?_
    have hsub : n + 1 - i = n - i + 1 := by have := List.mem_range.mp hi; omega
    rw [hsub, BitVec.ofNat_add]
    exact add_sub_add_right_eq_sub _ _ _
  · simp

/-- The oldest number is taken from the front (R80). -/
theorem numbersBefore_tail (counter : BitVec 24) (n : Nat) :
    (numbersBefore counter (n + 1)).tail = numbersBefore counter n := by
  simp only [numbersBefore, List.range_succ_eq_map, List.map_cons, List.tail_cons, List.map_map]
  refine List.map_congr_left fun i _ => ?_
  simp [Nat.add_sub_add_right]

/-- The run states in which the queue holds no entry of the run (R76). -/
def RunState.Unnumbered (r : RunState) : Prop := r = .idle ∨ r = .starting ∨ r = .resyncing

/-- QueueNumbered, of the run and the queue alone. -/
structure QueueInOrder (r : RunControl) (q : AcceptQueue) : Prop where
  epoch : ∀ e ∈ runPart q.entries, e.epoch = r.epoch
  numbers : (runPart q.entries).map (fun e => e.event) = numbersBefore q.eventCounter (runPart q.entries).length
  none : r.state.Unnumbered → runPart q.entries = []
  order : q.entries = diagnosticPart q.entries ++ runPart q.entries

theorem queueNumbered_iff (s : State) : QueueNumbered s ↔ QueueInOrder s.run s.queue :=
  ⟨fun ⟨hepoch, hnumbers, hnone, horder⟩ => ⟨hepoch, hnumbers, hnone, horder⟩,
    fun ⟨hepoch, hnumbers, hnone, horder⟩ => ⟨hepoch, hnumbers, hnone, horder⟩⟩

/-! ### What keeps the order -/

/-- The run moves on within its epoch, and into Idle, Starting or Resyncing with no entry of the run. -/
theorem QueueInOrder.of_run {r r' : RunControl} {q : AcceptQueue} (h : QueueInOrder r q) (hepoch : r'.epoch = r.epoch)
    (hnone : r'.state.Unnumbered → runPart q.entries = []) : QueueInOrder r' q :=
  ⟨by rw [hepoch]; exact h.epoch, h.numbers, hnone, h.order⟩

/-- Without an entry of the run any run and any event counter are in order. -/
theorem QueueInOrder.of_unnumbered {r : RunControl} {q q' : AcceptQueue} (h : QueueInOrder r q)
    (hnone : runPart q.entries = []) (hentries : q'.entries = q.entries) (r' : RunControl) : QueueInOrder r' q' := by
  have horder := h.order
  rw [← hentries] at horder hnone
  refine ⟨?_, ?_, fun _ => hnone, horder⟩ <;> simp [hnone, numbersBefore]

/-- An accept is numbered by the event counter (R71, R73). -/
theorem QueueInOrder.accept {r : RunControl} {q : AcceptQueue} (h : QueueInOrder r q) (hr : r.state = .run) {e : Entry}
    (hevent : e.event = q.eventCounter) (hepoch : e.epoch = r.epoch) (hrun : e.diagnostic = false) :
    QueueInOrder r { q with entries := q.entries ++ [e], eventCounter := q.eventCounter + 1 } := by
  have hpart : runPart (q.entries ++ [e]) = runPart q.entries ++ [e] := by simp [runPart, hrun]
  have hdiagnostic : diagnosticPart (q.entries ++ [e]) = diagnosticPart q.entries := by simp [diagnosticPart, hrun]
  refine ⟨fun x hx => ?_, ?_, fun hn => ?_, ?_⟩
  · rw [hpart, List.mem_append, List.mem_singleton] at hx
    rcases hx with hx | rfl
    · exact h.epoch x hx
    · exact hepoch
  · rw [hpart, List.length_append, List.length_singleton, numbersBefore_succ, List.map_append, h.numbers, List.map_singleton,
      hevent]
  · rcases hn with hn | hn | hn <;> rw [hr] at hn <;> cases hn
  · rw [hpart, hdiagnostic, ← List.append_assoc, ← h.order]

/-- A diagnostic accept follows diagnostic entries alone (R79). -/
theorem QueueInOrder.diagnostic {r : RunControl} {q : AcceptQueue} (h : QueueInOrder r q)
    (hnone : runPart q.entries = []) {e : Entry} (hdiagnostic : e.diagnostic = true) (k : BitVec 24) :
    QueueInOrder r { q with entries := q.entries ++ [e], diagnosticCounter := k } := by
  have hpart : runPart (q.entries ++ [e]) = [] := by
    rw [runPart, List.filter_append, ← runPart, hnone]
    simp [hdiagnostic]
  have hall : diagnosticPart (q.entries ++ [e]) = q.entries ++ [e] := by
    have horder := h.order
    rw [hnone, List.append_nil] at horder
    rw [diagnosticPart, List.filter_append, ← diagnosticPart, ← horder]
    simp [hdiagnostic]
  refine ⟨?_, ?_, fun _ => hpart, ?_⟩ <;> simp [hpart, hall, numbersBefore]

/-- The parts of a queue in order whose oldest entry is taken (R80): of a diagnostic entry the diagnostic part loses its first, of
an entry of the run there is no diagnostic part. -/
theorem parts_tail {e : Entry} {rest : List Entry}
    (h : e :: rest = diagnosticPart (e :: rest) ++ runPart (e :: rest)) :
    rest = diagnosticPart rest ++ runPart rest ∧
      (runPart rest = runPart (e :: rest) ∨ runPart rest = (runPart (e :: rest)).tail) := by
  cases hd : e.diagnostic with
  | true =>
    have hrun : runPart (e :: rest) = runPart rest := by simp [runPart, hd]
    have hdiagnostic : diagnosticPart (e :: rest) = e :: diagnosticPart rest := by simp [diagnosticPart, hd]
    rw [hrun, hdiagnostic, List.cons_append] at h
    exact ⟨(List.cons.inj h).2, .inl hrun.symm⟩
  | false =>
    have hrun : runPart (e :: rest) = e :: runPart rest := by simp [runPart, hd]
    have hdiagnostic : diagnosticPart (e :: rest) = diagnosticPart rest := by simp [diagnosticPart, hd]
    rw [hrun, hdiagnostic] at h
    refine ⟨?_, .inr (by rw [hrun, List.tail_cons])⟩
    cases hfirst : diagnosticPart rest with
    | nil =>
      rw [hfirst] at h
      exact (List.cons.inj h).2
    | cons d ds =>
      rw [hfirst, List.cons_append] at h
      have hdd : d.diagnostic = true := (List.mem_filter.mp (show d ∈ diagnosticPart rest by simp [hfirst])).2
      rw [← (List.cons.inj h).1, hd] at hdd
      cases hdd

/-- A capture begin takes the oldest entry (R80). -/
theorem QueueInOrder.tail {r : RunControl} {q : AcceptQueue} (h : QueueInOrder r q) {e : Entry} {rest : List Entry}
    (hq : q.entries = e :: rest) : QueueInOrder r { q with entries := rest } := by
  obtain ⟨hepoch, hnumbers, hnone, horder⟩ := h
  rw [hq] at hepoch hnumbers hnone horder
  obtain ⟨hrest, hpart⟩ := parts_tail horder
  rcases hpart with hpart | hpart
  · rw [← hpart] at hepoch hnumbers hnone
    exact ⟨hepoch, hnumbers, hnone, hrest⟩
  · refine ⟨fun x hx => hepoch x (List.mem_of_mem_tail (hpart ▸ hx)), ?_, fun hn => ?_, hrest⟩
    · rw [hpart, List.map_tail, hnumbers, List.length_tail]
      cases (runPart (e :: rest)).length with
      | zero => rfl
      | succ n => exact numbersBefore_tail _ _
    · rw [hpart, hnone hn, List.tail_nil]

/-- An emptied queue is in order (R31). -/
theorem QueueInOrder.empty (r : RunControl) (q : AcceptQueue) : QueueInOrder r { q with entries := [] } :=
  ⟨by simp, rfl, fun _ => rfl, rfl⟩

/-! ### Run changes and the queue -/

/-- The queue of a state is in order. -/
abbrev InOrder (s : State) : Prop := QueueInOrder s.run s.queue

theorem RunState.not_unnumbered_lost : ¬ RunState.lost.Unnumbered := by simp [RunState.Unnumbered]

theorem RunState.not_unnumbered_stopping : ¬ RunState.stopping.Unnumbered := by simp [RunState.Unnumbered]

theorem changeRunState_inOrder {s : State} (h : InOrder s) {r : RunState}
    (hnone : r.Unnumbered → runPart s.queue.entries = []) : InOrder (changeRunState r s) := by
  simpa [InOrder] using h.of_run (r' := { s.run with state := r }) rfl hnone

theorem loseRun_inOrder {s : State} (h : InOrder s) : InOrder (loseRun s) := by
  unfold loseRun
  split
  · exact changeRunState_inOrder h fun hn => absurd hn RunState.not_unnumbered_lost
  · exact h

theorem loseRun_report_inOrder {s : State} (h : InOrder s) (c : Cause) : InOrder (loseRun (report c s)) :=
  loseRun_inOrder (by simpa [InOrder] using h)

theorem drain_inOrder {s : State} (h : InOrder s) : InOrder (drain s) := by
  unfold drain
  split
  · next hd =>
    have hempty : s.queue.entries = [] := ((chainEmpty_iff s).mp hd.2).1
    exact changeRunState_inOrder h fun _ => by rw [hempty]; rfl
  · exact h

/-- A run begins with no entry of an earlier run in the queue (R29, R32). -/
theorem beginRun_inOrder {s : State} (h : InOrder s) (hs : s.run.state.Unnumbered) : InOrder (beginRun s) :=
  h.of_unnumbered (q' := (beginRun s).queue) (h.none hs) rfl _

theorem startingRunBegins_inOrder {s : State} (h : InOrder s) : InOrder (startingRunBegins s) := by
  unfold startingRunBegins
  split
  · next hs => exact beginRun_inOrder h (.inr (.inl hs))
  · exact h

theorem takeMarker_inOrder {s : State} (h : InOrder s) : InOrder (takeMarker s) := by
  unfold takeMarker
  split
  · next p f _ _ =>
    dsimp only
    have hbegin : InOrder
        (if decide (s.run.state = .resyncing) then
          beginRun (s.setTimer (timerAtMarker p f (decide (s.run.state = .resyncing))))
        else s.setTimer (timerAtMarker p f (decide (s.run.state = .resyncing)))) := by
      split
      · next hr => exact beginRun_inOrder h (.inr (.inr (of_decide_eq_true hr)))
      · exact h
    split
    · exact loseRun_report_inOrder hbegin _
    · exact hbegin
  · exact h

theorem takeAccept_inOrder {s : State} (h : InOrder s) : InOrder (takeAccept s) := by
  have hcount {r : RunControl} (hr : r.epoch = s.run.epoch) (hstate : r.state = s.run.state) : QueueInOrder r s.queue :=
    h.of_run hr fun hn => h.none (hstate ▸ hn)
  unfold takeAccept
  cases hrun : s.run.state with
  | idle | starting | stopping => exact hcount rfl rfl
  | lost | resyncing => exact hcount rfl rfl
  | run =>
    cases currentIndex s with
    | none => exact h
    | some n =>
      simp only [intakeAccept]
      split
      · exact h.accept hrun rfl rfl rfl
      · exact loseRun_report_inOrder (s := countDiscarded s) (hcount rfl rfl) _

theorem takeResync_inOrder {s : State} (h : InOrder s) : InOrder (takeResync s) := by
  unfold takeResync
  split
  · simpa [InOrder, discardWork] using QueueInOrder.empty _ s.queue
  · exact h

theorem stopRun_inOrder {s : State} (h : InOrder s) : InOrder (stopRun s) := by
  have hstopping : InOrder (drain (changeRunState .stopping s)) :=
    drain_inOrder (changeRunState_inOrder h fun hn => absurd hn RunState.not_unnumbered_stopping)
  unfold stopRun
  split
  · exact h
  · next hs => exact changeRunState_inOrder h fun _ => h.none (.inr (.inl hs))
  · exact hstopping
  · exact hstopping
  · exact hstopping
  · exact h

theorem startRun_inOrder {s : State} (h : InOrder s) : InOrder (startRun s) := by
  rcases startRun_cases s with he | ⟨hidle, -, -, -, he⟩ <;> rw [he]
  · exact h
  · exact changeRunState_inOrder h fun _ => h.none (.inl hidle)

theorem beginCapture_inOrder {s : State} (h : InOrder s) : InOrder (beginCapture s) := by
  unfold beginCapture
  split
  · exact h
  · next n e rest slot hc =>
    dsimp only
    split <;> simpa [InOrder] using h.tail (captureCandidate_some hc).1

/-- A diagnostic accept is taken while frozen alone (R79). -/
theorem frozen_of_diagnosticReply_done {s : State} {a : Nat} (h : diagnosticReply s a = .done []) :
    s.pipeline.frozen = true := by
  by_contra hn
  unfold diagnosticReply at h
  rw [if_pos (eq_false_of_ne_true hn)] at h
  cases h

theorem diagnosticIntake_inOrder {s : State} (hfrozen : FrozenInIdle s) (h : InOrder s) (a : Nat) :
    InOrder (diagnosticIntake a s) := by
  unfold diagnosticIntake
  split
  · next hr => exact h.diagnostic (h.none (.inl (hfrozen (frozen_of_diagnosticReply_done hr)))) rfl _
  · exact h

/-! ### The obligation -/

theorem inOrder_kept :
    KeptByOperations fun s => (s.pipeline.frozen = true → s.run.state = .idle) ∧ QueueInOrder s.run s.queue where
  powerOnReset s h := ⟨frozenInIdle_kept.powerOnReset s h.1, QueueInOrder.empty _ AcceptQueue.reset⟩
  restartPart s h := ⟨frozenInIdle_kept.restartPart s h.1, QueueInOrder.empty _ AcceptQueue.reset⟩
  drain s h := ⟨frozenInIdle_kept.drain s h.1, drain_inOrder h.2⟩
  startingRunBegins s h := ⟨frozenInIdle_kept.startingRunBegins s h.1, startingRunBegins_inOrder h.2⟩
  takeMarker s h := ⟨frozenInIdle_kept.takeMarker s h.1, takeMarker_inOrder h.2⟩
  takeAccept s h := ⟨frozenInIdle_kept.takeAccept s h.1, takeAccept_inOrder h.2⟩
  takeLinkError s h := ⟨frozenInIdle_kept.takeLinkError s h.1, loseRun_report_inOrder h.2 _⟩
  takeResync s h := ⟨frozenInIdle_kept.takeResync s h.1, takeResync_inOrder h.2⟩
  stopRun s h := ⟨frozenInIdle_kept.stopRun s h.1, stopRun_inOrder h.2⟩
  startRun s h := ⟨frozenInIdle_kept.startRun s h.1, startRun_inOrder h.2⟩
  beginCapture s h := ⟨frozenInIdle_kept.beginCapture s h.1, beginCapture_inOrder h.2⟩
  diagnosticIntake a s h := ⟨frozenInIdle_kept.diagnosticIntake a s h.1, diagnosticIntake_inOrder h.1 h.2 a⟩
  writeColumn pairs s h := ⟨frozenInIdle_kept.writeColumn pairs s h.1, by simpa using h.2⟩
  freezePipeline s h := ⟨frozenInIdle_kept.freezePipeline s h.1, by simpa using h.2⟩
  unfreezePipeline s h := ⟨frozenInIdle_kept.unfreezePipeline s h.1, by simpa using h.2⟩
  writeCell a ch x s h := ⟨frozenInIdle_kept.writeCell a ch x s h.1, by simpa using h.2⟩

/-- Settles O11: an accept takes the next number, a capture begin the oldest, and the run enters a state without numbers with an
queue that holds no entry of a run. -/
theorem queueNumberedKept : Obligations.QueueNumberedKept := by
  intro s t hfrozen hs hstep
  rw [queueNumbered_iff] at hs ⊢
  exact (inOrder_kept.step ⟨hfrozen, hs⟩ hstep).2

end Sys2Proof.Machine
end

section
/-! How a crossing is entered: its position, its number, its boundary; and the turn boundary as a row of its own. -/

namespace Sys2Proof.Machine

/-! ### Entering a crossing (log 1) -/

/-- The run of a crossing opened is Starting where it was before: only a drain can have come between (R34). -/
theorem openCrossing_starting_iff (s : State) : (openCrossing s).run.state = .starting ↔ s.run.state = .starting := by
  rw [openCrossing_eq]
  split
  · exact Iff.rfl
  · rw [(beginForming_frame _).1, settle, drain_run]
    split
    · next h => simp at h; simp [h.1]
    · simp

@[simp] theorem openCrossing_turnLength (s : State) : turnLength (openCrossing s) = turnLength s := by
  simp [turnLength_eq]

/-- The crossing being formed is the one there was, or a fresh one; it has its position, and its frame where it had (R21, R40). -/
theorem openCrossing_forms {s : State} (h : TimerWhole s) :
    ∃ p f, (openCrossing s).timer.position = some p ∧ (openCrossing s).timer.forming = some f ∧
      f.frameTaken = frameTaken s := by
  cases hf : s.timer.forming with
  | none =>
    refine ⟨nextPosition s.timer.position, Forming.fresh, ?_, ?_, by simp [frameTaken, hf, Forming.fresh]⟩ <;>
      rw [openCrossing_timer_of_not_forming (by simp [isForming, hf])]
  | some f =>
    obtain ⟨p, hp⟩ := Option.isSome_iff_exists.mp (h (by simp [hf]))
    refine ⟨p, f, ?_, ?_, by simp [frameTaken, hf]⟩ <;> rwa [openCrossing_of_forming (by simp [isForming, hf])]

theorem formNumber_of_unformed {s : State} {p : Position} {f : Forming} (hp : s.timer.position = some p)
    (hf : s.timer.forming = some f) (hn : f.numberFormed = false) :
    formNumber s
      = s.setTimer
          { s.timer with
            position := some { p with number := counterNumber s p }
            forming := some { f with numberFormed := true, boundaryDue := counterNumber s p == 0 } } := by
  unfold formNumber
  rw [hp, hf]
  simp [hn]

/-- The crossing being formed has its number after the counter has been asked (R22). -/
theorem formNumber_formed {s : State} {p : Position} {f : Forming} (hp : s.timer.position = some p)
    (hf : s.timer.forming = some f) :
    ∃ q g, (formNumber s).timer.position = some q ∧ (formNumber s).timer.forming = some g ∧ g.numberFormed = true ∧
      g.frameTaken = f.frameTaken := by
  cases hn : f.numberFormed with
  | true =>
    rw [formNumber_of_formed hp hf hn]
    exact ⟨p, f, hp, hf, hn, rfl⟩
  | false =>
    rw [formNumber_of_unformed hp hf hn]
    exact ⟨_, _, rfl, rfl, rfl, rfl⟩

/-- A crossing that has its number is entered by its boundary (R22). -/
theorem takeBoundary_entered {s : State} {p : Position} {f : Forming} (hp : s.timer.position = some p)
    (hf : s.timer.forming = some f) (hn : f.numberFormed = true) :
    ∃ q g, EnteredAt (takeBoundary s) q g ∧ g.frameTaken = f.frameTaken := by
  cases hdue : f.boundaryDue with
  | false =>
    rw [takeBoundary_of_not_due (by simp [boundaryDue, hf, hdue])]
    exact ⟨p, f, ⟨hp, hf, hn, hdue⟩, rfl⟩
  | true =>
    rw [takeBoundary_of_due hp hf hdue]
    exact ⟨_, _, ⟨rfl, rfl, hn, rfl⟩, rfl⟩

theorem enterCrossing_entered {s : State} (h : TimerWhole s) :
    ∃ p f, EnteredAt (enterCrossing s) p f ∧ f.frameTaken = frameTaken s := by
  obtain ⟨p, f, hp, hf, hframe⟩ := openCrossing_forms h
  obtain ⟨q, g, hq, hg, hn, hgf⟩ := formNumber_formed hp hf
  obtain ⟨r, k, hentered, hkg⟩ := takeBoundary_entered hq hg hn
  exact ⟨r, k, hentered, (hkg.trans hgf).trans hframe⟩

theorem enterCrossing_enterCrossing {s : State} (h : TimerWhole s) : enterCrossing (enterCrossing s) = enterCrossing s := by
  obtain ⟨p, f, hentered, -⟩ := enterCrossing_entered h
  exact enterCrossing_of_enteredAt hentered

/-! ### Index, number and turn count of a fresh crossing (R21, R22) -/

/-- The position of a fresh crossing that has been entered: the counter's number, and at a boundary the next turn count. -/
theorem enterCrossing_position {s : State} (h : s.timer.forming = none) :
    (enterCrossing s).timer.position
      = some (if counterNumber s (nextPosition s.timer.position) = 0 then
          { nextPosition s.timer.position with
            number := 0
            turnCount := boundaryTurnCount (nextPosition s.timer.position) (decide (s.run.state = .starting)) }
        else
          { nextPosition s.timer.position with number := counterNumber s (nextPosition s.timer.position) }) := by
  have htimer := openCrossing_timer_of_not_forming (s := s) (by simp [isForming, h])
  have hcounter (x : Position) : counterNumber (openCrossing s) x = counterNumber s x := by simp [counterNumber]
  rw [enterCrossing, formNumber_of_unformed (by rw [htimer]) (by rw [htimer]) rfl, hcounter]
  by_cases hzero : counterNumber s (nextPosition s.timer.position) = 0
  · rw [takeBoundary_of_due rfl rfl (by simp [hzero])]
    simp [hzero, timerAtBoundary, openCrossing_starting_iff, Forming.fresh, boundaryTurnCount]
  · rw [takeBoundary_of_not_due (by simp [boundaryDue, hzero])]
    simp [hzero]

/-- Settles O14: a crossing entered twice is entered once, and a fresh one has the position the counter gives it. -/
theorem crossingStartCounts : Obligations.CrossingStartCounts := by
  refine ⟨fun pairs s h => ⟨?_, ?_⟩, fun pairs s h => ?_⟩
  · rw [exec_crossingStart, exec_crossingStart, startCrossing, startCrossing, enterCrossing_enterCrossing h]
  · obtain ⟨p, f, hentered, -⟩ := enterCrossing_entered h
    exact ⟨p, f, hentered⟩
  · have htimer := (startCrossing_frame pairs s).1
    refine ⟨_, _, exec_crossingStart pairs s, by rw [htimer]; exact enterCrossing_position h, by rw [htimer], ?_⟩
    cases hp : s.timer.position with
    | none => simp [nextPosition, counterNumber, boundaryTurnCount]
    | some p =>
      by_cases hwrap : p.number + 1 = turnLength s <;>
        simp [nextPosition, counterNumber, boundaryTurnCount, hwrap]

/-! ### The turn boundary as a row (R22, R24, R29) -/

theorem exec_turnBoundary (s : State) :
    exec .turnBoundary s
      = .next (if boundaryDue (formNumber (openCrossing s)) then takeBoundary (formNumber (openCrossing s)) else s) := rfl

theorem openCrossing_isForming (s : State) : isForming (openCrossing s) = true := by
  cases h : isForming s with
  | true => rwa [openCrossing_of_forming h]
  | false => simp [isForming, openCrossing_timer_of_not_forming h]

theorem formNumber_isForming (s : State) : isForming (formNumber s) = isForming s := by
  rcases formNumber_cases s with he | ⟨p, f, -, hf, -, htimer⟩
  · rw [he]
  · simp [isForming, htimer, hf]

theorem formNumber_formNumber (s : State) : formNumber (formNumber s) = formNumber s := by
  rcases formNumber_cases s with he | ⟨p, f, -, -, -, htimer⟩
  · rw [he, he]
  · exact formNumber_of_formed (by rw [htimer]) (by rw [htimer]) rfl

/-- A crossing opened and numbered is neither opened nor numbered again. -/
theorem formNumber_openCrossing_idem (s : State) :
    formNumber (openCrossing (formNumber (openCrossing s))) = formNumber (openCrossing s) := by
  rw [openCrossing_of_forming (by rw [formNumber_isForming, openCrossing_isForming]), formNumber_formNumber]

/-- What a boundary that is due does besides the settings: the run begins where it is Starting (R29). -/
theorem startingRunBegins_effect (s : State) :
    (s.run.state = .starting →
      (startingRunBegins s).run = { s.run with state := .run, epoch := s.run.epoch + 1 } ∧
      (startingRunBegins s).queue = { s.queue with eventCounter := 0 } ∧
      (startingRunBegins s).trigger = { s.trigger with throttle := .off }) ∧
    (s.run.state ≠ .starting → startingRunBegins s = s) := by
  unfold startingRunBegins
  refine ⟨fun h => ?_, fun h => if_neg h⟩
  rw [if_pos h]
  exact ⟨rfl, rfl, rfl⟩

/-- A boundary changes no block but timer, run, throttle, queue, tracker, settings and monitor (R22, R29, R165). -/
theorem takeBoundary_eq_with (s : State) :
    takeBoundary s
      = { s with
          timer := (takeBoundary s).timer, run := (takeBoundary s).run, trigger := (takeBoundary s).trigger,
          queue := (takeBoundary s).queue, tracker := (takeBoundary s).tracker,
          settings := (takeBoundary s).settings, monitor := (takeBoundary s).monitor } := by
  obtain ⟨hinputs, hpipeline, htowers, hcapture, hwindows, hrecon, hbuffer, hreadout, hcontrol, hinjection, hpending⟩ :=
    takeBoundary_frame s
  generalize takeBoundary s = t at *
  rw [← hinputs, ← hpipeline, ← htowers, ← hcapture, ← hwindows, ← hrecon, ← hbuffer, ← hreadout, ← hcontrol, ← hinjection,
    ← hpending]

/-- Settles O27: a boundary that is due, written out, and the same row before and after its crossing is numbered. -/
theorem turnBoundaryEffect : Obligations.TurnBoundaryEffect := by
  refine ⟨fun s => ⟨fun h => ?_, fun h => ?_⟩, fun s p f hp hf hn hdue => ?_⟩
  · rw [exec_turnBoundary, h]
    rfl
  · rw [exec_turnBoundary, exec_turnBoundary, formNumber_openCrossing_idem, if_pos h, if_pos h]
  · have hformed : formNumber (openCrossing s) = s := by
      rw [openCrossing_of_forming (by simp [isForming, hf]), formNumber_of_formed hp hf hn]
    have hboundary : boundaryDue s = true := by simp [boundaryDue, hf, hdue]
    have htaken := takeBoundary_of_due hp hf hdue
    have hlength : turnLength (takeBoundary s) = turnLength (settingsBoundary s) := by rw [htaken]; simp [turnLength_eq]
    have hrun : (takeBoundary s).run = (startingRunBegins (settingsBoundary s)).run ∧
        (takeBoundary s).queue = (startingRunBegins (settingsBoundary s)).queue ∧
        (takeBoundary s).trigger = (startingRunBegins (settingsBoundary s)).trigger := by
      simp only [htaken, State.setTimer_run, State.setTimer_queue, State.setTimer_trigger, and_self]
    refine ⟨takeBoundary s, by rw [exec_turnBoundary, hformed, if_pos hboundary], ?_, ?_, ?_, ?_, ?_, ?_, ?_⟩
    · rw [htaken]
      rfl
    · exact takeBoundary_eq_with s
    · rw [htaken]
      simp [timerAtBoundary, boundaryTurnCount]
    · rw [hlength, htaken]
      intro h
      simp [timerAtBoundary, h]
    · rw [hlength, htaken]
      intro h
      simp [timerAtBoundary, h]
    · intro hs
      obtain ⟨hbegins, -⟩ := startingRunBegins_effect (settingsBoundary s)
      simpa [hrun] using hbegins (by simpa using hs)
    · intro hs
      obtain ⟨-, hstays⟩ := startingRunBegins_effect (settingsBoundary s)
      rw [hstays (by simpa using hs)] at hrun
      simpa using hrun

/-! ### Turn markers (R23, R30, R32) -/

theorem exec_turnMarker (s : State) :
    exec .turnMarker s = .next (if frameTaken s then s else takeMarker (openCrossing s)) := rfl

/-- A marker in Resyncing begins the run (R32). -/
theorem takeMarker_of_resyncing {s : State} {p : Position} {f : Forming} (hp : s.timer.position = some p)
    (hf : s.timer.forming = some f) (hr : s.run.state = .resyncing) :
    takeMarker s = beginRun (s.setTimer (timerAtMarker p f true)) := by
  unfold takeMarker
  rw [hp, hf]
  simp [hr, markerSlips]

theorem markerSlips_iff (s : State) (expected : Nat) :
    markerSlips s expected = true ↔ s.timer.sync = .synced ∧ expected ≠ 0 ∧ s.run.state ≠ .resyncing := by
  simp [markerSlips, and_assoc]

/-- A marker that realigns nothing moves the timer alone (R23). -/
theorem takeMarker_of_not_slips {s : State} {p : Position} {f : Forming} (hp : s.timer.position = some p)
    (hf : s.timer.forming = some f) (hr : s.run.state ≠ .resyncing)
    (hslips : markerSlips s (expectedNumber s p f) = false) : takeMarker s = s.setTimer (timerAtMarker p f false) := by
  unfold takeMarker
  rw [hp, hf]
  simp [hr, hslips]

/-- A marker that realigns reports TurnSlip and loses the run (R23, R30). -/
theorem takeMarker_of_slips {s : State} {p : Position} {f : Forming} (hp : s.timer.position = some p)
    (hf : s.timer.forming = some f) (hr : s.run.state ≠ .resyncing)
    (hslips : markerSlips s (expectedNumber s p f) = true) :
    takeMarker s = loseRun (report .turnSlip (s.setTimer (timerAtMarker p f false))) := by
  unfold takeMarker
  rw [hp, hf]
  simp [hr, hslips]

theorem changeRunState_of_ne {r : RunState} (hr : r ≠ .run) (s : State) :
    changeRunState r s
      = { s with run := { s.run with state := r }, trigger := { s.trigger with throttle := .off } } := by
  unfold changeRunState
  rw [if_neg hr]
  rfl

theorem loseRun_of_run {s : State} (h : s.run.state = .run) :
    loseRun s
      = { s with run := { s.run with state := .lost }, trigger := { s.trigger with throttle := .off } } := by
  unfold loseRun
  rw [if_pos h, changeRunState_of_ne (by simp)]

theorem loseRun_of_not_run {s : State} (h : s.run.state ≠ .run) : loseRun s = s := by
  unfold loseRun
  rw [if_neg h]

/-- What a marker does besides the timer, by the run state and by whether it realigns (R23, R30, R32). -/
theorem takeMarker_effect {s : State} {p : Position} {f : Forming} (hp : s.timer.position = some p)
    (hf : s.timer.forming = some f) :
    let t := takeMarker s
    let slips := markerSlips s (expectedNumber s p f) = true
    t = { s with timer := t.timer, run := t.run, trigger := t.trigger, queue := t.queue, monitor := t.monitor } ∧
    (slips → t.monitor = s.monitor.occurrence .turnSlip) ∧ (¬ slips → t.monitor = s.monitor) ∧
    (s.run.state = .resyncing →
      t.run = { s.run with state := .run, epoch := s.run.epoch + 1 } ∧ t.queue = { s.queue with eventCounter := 0 } ∧
      t.trigger = { s.trigger with throttle := .off }) ∧
    (s.run.state = .run → slips →
      t.run = { s.run with state := .lost } ∧ t.queue = s.queue ∧ t.trigger = { s.trigger with throttle := .off }) ∧
    (s.run.state ≠ .resyncing → ¬ (s.run.state = .run ∧ slips) →
      t.run = s.run ∧ t.queue = s.queue ∧ t.trigger = s.trigger) := by
  intro t slips
  by_cases hr : s.run.state = .resyncing
  · have ht : t = _ := takeMarker_of_resyncing hp hf hr
    have hn : ¬ slips := fun h => by
      obtain ⟨-, -, hne⟩ := (markerSlips_iff _ _).mp h
      exact hne hr
    have hrun : s.run.state ≠ .run := by simp [hr]
    rw [ht]
    exact ⟨rfl, fun h => absurd h hn, fun _ => rfl, fun _ => ⟨rfl, rfl, rfl⟩, fun h => absurd h hrun,
      fun h => absurd hr h⟩
  · by_cases hs : slips
    · have hlost := takeMarker_of_slips hp hf hr hs
      by_cases hrun : s.run.state = .run
      · have ht : t = _ := hlost.trans (loseRun_of_run (by simpa using hrun))
        rw [ht]
        exact ⟨rfl, fun _ => rfl, fun h => absurd hs h, fun h => absurd h hr, fun _ _ => ⟨rfl, rfl, rfl⟩,
          fun _ h => absurd ⟨hrun, hs⟩ h⟩
      · have ht : t = _ := hlost.trans (loseRun_of_not_run (by simpa using hrun))
        rw [ht]
        exact ⟨rfl, fun _ => rfl, fun h => absurd hs h, fun h => absurd h hr, fun h => absurd h hrun,
          fun _ _ => ⟨rfl, rfl, rfl⟩⟩
    · have ht : t = _ := takeMarker_of_not_slips hp hf hr (eq_false_of_ne_true hs)
      rw [ht]
      exact ⟨rfl, fun h => absurd h hs, fun _ => rfl, fun h => absurd h hr, fun _ h => absurd h hs,
        fun _ _ => ⟨rfl, rfl, rfl⟩⟩

/-- Settles O26: the timer after a marker, and what else it does by the run state and by whether it realigns. -/
theorem turnMarkerEffect : Obligations.TurnMarkerEffect := by
  intro s hwhole hframe u
  obtain ⟨p, f, hp, hf, -⟩ := openCrossing_forms hwhole
  have hexec : exec .turnMarker s = .next (takeMarker u) := by rw [exec_turnMarker, hframe]; rfl
  refine ⟨takeMarker u, hexec, p, f, hp, hf, ?_⟩
  intro expected slips
  have htimer : (takeMarker u).timer = timerAtMarker p f (decide (u.run.state = .resyncing)) := takeMarker_timer hp hf
  have hslips : (markerSlips u (expectedNumber u p f) = true) = slips := propext (markerSlips_iff u _)
  obtain ⟨hwith, hoccurs, hsilent, hbegins, hlost, hstays⟩ := takeMarker_effect hp hf
  rw [hslips] at hoccurs hsilent hlost hstays
  refine ⟨hwith, ?_, ?_, ?_, ?_, ?_, hoccurs, hsilent, hbegins, hlost, hstays⟩
  · rw [htimer]
    simp [timerAtMarker]
  · intro h
    rw [htimer]
    simp [timerAtMarker, h]
  · intro h
    rw [htimer]
    simp [timerAtMarker, h]
  · intro h
    rw [boundaryDue, htimer]
    rcases h with h | h <;> simp [timerAtMarker, h]
  · rw [frameTaken, htimer]
    rfl

end Sys2Proof.Machine
end

section
/-! The frame commands in an entered crossing: failing frames, accepts, Resync. -/

namespace Sys2Proof.Machine

/-! ### Frames (R40) -/

/-- A frame command other than Turn Marker. -/
theorem exec_eq_takeFrame {c : Instr} (h : c = .accept ∨ c = .testFire ∨ c = .resync ∨ ∃ x, c = .linkError x) :
    ∃ effect, ∀ s, exec c s = .next (takeFrame effect s) := by
  rcases h with rfl | rfl | rfl | ⟨x, rfl⟩ <;> exact ⟨_, fun _ => rfl⟩

theorem takeFrame_of_taken {s : State} (h : frameTaken s = true) (effect : State → State) : takeFrame effect s = s := by
  unfold takeFrame
  rw [if_pos h]

theorem takeFrame_of_not_taken {s : State} (h : frameTaken s = false) (effect : State → State) :
    takeFrame effect s = effect (markFrame (enterCrossing s)) := by
  unfold takeFrame
  rw [h]
  rfl

/-- In an entered crossing a frame is taken on the state as it stands, with its frame marked (R40). -/
theorem takeFrame_of_entered {s : State} {p : Position} {f : Forming} (he : EnteredAt s p f) (hf : f.frameTaken = false)
    (effect : State → State) :
    takeFrame effect s
      = effect { s with timer := { s.timer with forming := some { f with frameTaken := true } } } := by
  have hentered := enterCrossing_of_enteredAt he
  obtain ⟨-, hforming, -, -⟩ := he
  rw [takeFrame_of_not_taken (by simp [frameTaken, hforming, hf]), hentered, markFrame, updateForming, hforming]
  rfl

/-- Settles O21: a frame enters its crossing, which entered stays, and a failing frame loses a run in Run. -/
theorem framesEnterTheCrossing : Obligations.FramesEnterTheCrossing := by
  refine ⟨fun c s hc hwhole => ?_, fun _ => rfl, fun x s p f he hf => ?_⟩
  · obtain ⟨effect, hexec⟩ := exec_eq_takeFrame hc
    obtain ⟨p, f, hentered, hframe⟩ := enterCrossing_entered hwhole
    refine ⟨fun ht => by rw [hexec, takeFrame_of_taken ht], fun ht => ⟨?_, p, f, hentered, hframe.trans ht⟩⟩
    have hnot : frameTaken (enterCrossing s) = false := by
      obtain ⟨-, hforming, -, -⟩ := hentered
      simp [frameTaken, hforming, hframe.trans ht]
    rw [hexec, hexec, takeFrame_of_not_taken ht, takeFrame_of_not_taken hnot, enterCrossing_enterCrossing hwhole]
  · intro timer
    have hexec : exec (.linkError x) s
        = .next (loseRun (report .linkError { s with timer := timer })) :=
      congrArg Host.Outcome.next (takeFrame_of_entered he hf takeLinkError)
    refine ⟨fun hr => ?_, fun hr => ?_⟩
    · rw [hexec, loseRun_of_run (by simpa using hr)]
      rfl
    · rw [hexec, loseRun_of_not_run (by simpa using hr)]
      rfl

/-! ### Accepts (R27, R71, R73) -/

theorem intakeAccept_of_room {s : State} {n : Nat} (h : s.queue.entries.length < 16) :
    intakeAccept n s
      = { s with
          queue := { s.queue with
            entries := s.queue.entries ++ [acceptEntry s n], eventCounter := s.queue.eventCounter + 1 } } := by
  unfold intakeAccept
  rw [if_pos h]
  rfl

theorem intakeAccept_of_full {s : State} {n : Nat} (h : 16 ≤ s.queue.entries.length) (hr : s.run.state = .run) :
    intakeAccept n s
      = { s with
          run := { s.run with state := .lost, discarded := satInc 65535 s.run.discarded }
          trigger := { s.trigger with throttle := .off }
          monitor := s.monitor.occurrence .acceptOverflow } := by
  unfold intakeAccept
  rw [if_neg (not_lt.mpr h)]
  exact loseRun_of_run (s := report .acceptOverflow (countDiscarded s)) hr

theorem takeAccept_of_run {s : State} {p : Position} (hr : s.run.state = .run) (hp : s.timer.position = some p) :
    takeAccept s = intakeAccept p.index s := by
  unfold takeAccept currentIndex
  rw [hr, hp]
  rfl

theorem takeAccept_ignored {s : State} (h : s.run.state = .idle ∨ s.run.state = .starting ∨ s.run.state = .stopping) :
    takeAccept s = countIgnored s := by
  unfold takeAccept
  rcases h with h | h | h <;> rw [h]

theorem takeAccept_discarded {s : State} (h : s.run.state = .lost ∨ s.run.state = .resyncing) :
    takeAccept s = countDiscarded s := by
  unfold takeAccept
  rcases h with h | h <;> rw [h]

/-- Settles O22, by the run state and the room in the queue. -/
theorem acceptByRunState : Obligations.AcceptByRunState := by
  intro s p f he hf timer c
  have hexec {t : State} (ht : takeAccept { s with timer := timer } = t) : exec .accept s = .next t :=
    congrArg Host.Outcome.next ((takeFrame_of_entered he hf takeAccept).trans ht)
  have hrunning (hr : s.run.state = .run) :
      takeAccept { s with timer := timer } = intakeAccept p.index { s with timer := timer } :=
    takeAccept_of_run hr he.1
  exact ⟨fun hr hroom => hexec ((hrunning hr).trans (intakeAccept_of_room hroom)),
    fun hr hfull => hexec ((hrunning hr).trans (intakeAccept_of_full hfull hr)),
    fun hr => hexec (takeAccept_ignored hr), fun hr => hexec (takeAccept_discarded hr)⟩

/-! ### Resync (R31, R86, R111, R123) -/

/-- A Resync empties the chain and leaves the Event Buffer as the abandonment does (R31). -/
theorem discardWork_eq (s : State) :
    discardWork s
      = { s with
          run :=
            { s.run with
              discarded :=
                satAdd Config.countLimit s.run.discarded (s.queue.entries.filter fun e => !e.diagnostic).length }
          queue := { s.queue with entries := [] }
          capture := none
          windows := []
          recon := none
          buffer := (discardWork s).buffer } := by
  unfold discardWork abandonEvent
  cases hr : s.recon with
  | none =>
    simp only [State.setCapture_recon, State.setQueue_recon, State.setRun_recon, hr]
    rw [← hr]
    rfl
  | some b =>
    simp only [State.setCapture_recon, State.setQueue_recon, State.setRun_recon, hr]
    rfl

/-- The buffer after an abandonment: the newest descriptor and its reservation go with the current event (R111, R123). -/
theorem discardWork_buffer (s : State) :
    (discardWork s).buffer = match s.recon with
      | none => s.buffer
      | some _ => removeNewest s.buffer := by
  unfold discardWork abandonEvent
  cases hr : s.recon <;> simp [hr]

theorem removeNewest_append {b : EventBuffer} {older : List Descriptor} {d : Descriptor} {q : PayloadReference}
    (hring : b.ring = older ++ [d]) (hq : d.payload = some q) :
    removeNewest b = { b with ring := older, fillPoint := q.start, wordsInUse := b.wordsInUse - q.length } := by
  unfold removeNewest
  simp [hring, hq]

/-- Settles O25: what a Resync discards, and what becomes of the Building descriptor. -/
theorem resyncEffect : Obligations.ResyncEffect := by
  intro s p f he hf timer
  have hexec : exec .resync s = .next (takeResync { s with timer := timer }) :=
    congrArg Host.Outcome.next (takeFrame_of_entered he hf takeResync)
  refine ⟨fun hr => ⟨takeResync { s with timer := timer }, hexec, ?_⟩, fun hrun hlost => ?_⟩
  · have ht : takeResync { s with timer := timer } = discardWork (changeRunState .resyncing { s with timer := timer }) :=
      if_pos hr
    rw [changeRunState_of_ne (by simp)] at ht
    have hbuffer := discardWork_buffer
      { s with
        timer := timer, run := { s.run with state := .resyncing }, trigger := { s.trigger with throttle := .off } }
    rw [ht]
    refine ⟨discardWork_eq _, fun hrecon => ?_, fun b older d q hrecon hring hq => ?_⟩
    · rw [hbuffer]
      simp [hrecon]
    · rw [hbuffer]
      simp only [hrecon]
      exact removeNewest_append hring hq
  · rw [hexec]
    exact congrArg Host.Outcome.next (if_neg (not_or.mpr ⟨hrun, hlost⟩))

end Sys2Proof.Machine
end

section
/-! Start, Stop and the drain; and the reset state. -/

namespace Sys2Proof.Machine

/-! ### The drain (R34) -/

theorem drain_of_empty {s : State} (hs : s.run.state = .stopping) (he : ChainEmpty s) :
    drain s = { s with run := { s.run with state := .idle }, trigger := { s.trigger with throttle := .off } } := by
  unfold drain
  rw [if_pos ⟨hs, (chainEmpty_iff s).mpr he⟩, changeRunState_of_ne (by simp)]

theorem exec_drainComplete (s : State) : exec .drainComplete s = .next (drain s) := rfl

/-- Settles O41, by whether a Stopping run has an empty chain. -/
theorem drainCompleteEffect : Obligations.DrainCompleteEffect := by
  intro s empty
  refine ⟨fun hs he => by rw [exec_drainComplete, drain_of_empty hs he], fun h => ?_⟩
  rw [exec_drainComplete, drain_of_not]
  rintro ⟨hs, he⟩
  exact h.elim (absurd hs) (absurd he)

/-! ### Start (R28) -/

theorem exec_start (s : State) : exec .start s = .next (controlRequest 6 (fun t => (startRun t, startReply t)) s) := rfl

/-- A refused Start changes the control port alone. -/
theorem exec_start_of_refused {s : State} (h : ControlReady s) {k : RefusalCode} (hk : startReply s = .refused k) :
    exec .start s = .next { s with control := controlAnswering s ((Reply.refused k).words 6) } := by
  have hstays : startRun s = s := if_neg (by simp [hk])
  rw [exec_start, controlRequest_of_ready h]
  simp only [hstays, hk]
  rfl

/-- Settles O51: the first condition that holds decides the answer. -/
theorem startAnswers : Obligations.StartAnswers := by
  intro s h refused
  refine ⟨fun hr => ?_, fun hr hs => ?_, fun hr hs hf => ?_, fun hr hs hf ht => ?_, fun hr hs hf ht => ?_⟩
  · exact exec_start_of_refused h (k := .notIdle) (by simp [startReply, hr])
  · exact exec_start_of_refused h (k := .notSynced) (by simp [startReply, hr, hs])
  · exact exec_start_of_refused h (k := .frozen) (by simp [startReply, hr, hs, hf])
  · exact exec_start_of_refused h (k := .takePending) (by simp [startReply, hr, hs, hf, ht])
  · have hdone := (startReply_done_iff s).mpr ⟨hr, hs, hf, ht⟩
    have hstarts : startRun s = _ := (if_pos hdone).trans (changeRunState_of_ne (by simp) s)
    rw [exec_start, controlRequest_of_ready h]
    simp only [hstarts, hdone]
    rfl

/-! ### Stop (R33) -/

theorem exec_stop (s : State) : exec .stop s = .next (controlRequest 7 (actDone stopRun) s) := rfl

/-- A Stop is answered Done after its effect. -/
theorem exec_stop_of_ready {s t : State} (h : ControlReady s) (ht : stopRun s = t) :
    exec .stop s
      = .next (t.setControl (t.control.respond (isForming t) (.words ((Reply.done []).words 7)))) := by
  rw [exec_stop, controlRequest_of_ready h]
  simp only [actDone, ht]

/-- A run that is not Starting, Stopping or Idle stops, and drains at once where its chain is empty (R33, R34). -/
theorem stopRun_of_running {s : State} (h : s.run.state = .run ∨ s.run.state = .lost ∨ s.run.state = .resyncing) :
    stopRun s = drain (changeRunState .stopping s) := by
  unfold stopRun
  rcases h with h | h | h <;> rw [h]

/-- Settles O52, by the run state and by whether the chain is empty. -/
theorem stopAnswers : Obligations.StopAnswers := by
  intro s h empty becomes
  refine ⟨fun hr => ?_, fun hr => ?_, fun hr he => ?_, fun hr he => ?_⟩
  · have hs : stopRun s = s := by
      unfold stopRun
      rcases hr with hr | hr <;> rw [hr]
    exact exec_stop_of_ready h hs
  · have hs : stopRun s = changeRunState .idle s := by
      unfold stopRun
      rw [hr]
    exact exec_stop_of_ready h (hs.trans (changeRunState_of_ne (by simp) s))
  · have hs := stopRun_of_running hr
    rw [changeRunState_of_ne (by simp)] at hs
    exact exec_stop_of_ready h (hs.trans (drain_of_empty rfl he))
  · have hs := stopRun_of_running hr
    rw [changeRunState_of_ne (by simp)] at hs
    exact exec_stop_of_ready h (hs.trans (drain_of_not fun hd => he hd.2))

/-! ### The reset state (R26, R35, R78, R134, R168, R185) -/

theorem trackerBounded_reset : TrackerBounded State.reset := by
  have hclear : Accumulator.clear.Bounded := ⟨by decide, by decide, fun _ hc => by simp [Accumulator.clear] at hc⟩
  intro ch
  have hreset : State.reset.tracker.get ch = TrackerChannel.reset := Oct.get_all _ ch
  rw [hreset]
  exact ⟨hclear, hclear⟩

theorem countsBounded_reset : CountsBounded State.reset :=
  ⟨Nat.zero_le _, Nat.zero_le _, CauseCounts.within_zero, faultsWithin_reset,
    fun _ ho => by simp [State.reset, Port.idle] at ho, fun _ ho => by simp [State.reset, Port.idle] at ho⟩

/-- The defaults of the catalogue are consistent (R157, R161). -/
theorem consistent_default : Consistent (itemValue []) := by
  decide

theorem bufferSound_reset : BufferSound State.reset := by
  refine ⟨rfl, by decide, by decide, ⟨fun _ hd => ?_, fun _ hd => ?_⟩, fun _ hd => ?_, trivial⟩ <;>
    simp [State.reset] at hd

/-- Settles O3, invariant by invariant. -/
theorem resetMeetsInvariants : Obligations.ResetMeetsInvariants := by
  have hthrottle : State.reset.trigger.throttle = .off := rfl
  have hfrozen : State.reset.pipeline.frozen = false := rfl
  have htake : State.reset.settings.take = .none := rfl
  refine ⟨⟨rfl, rfl, rfl, rfl, ?_, ?_⟩, ⟨by decide, by decide, by decide, by decide⟩, countsBounded_reset,
    trackerBounded_reset, by simp [hthrottle], by simp [hfrozen], syncedOutsideIdle_of_reset rfl rfl,
    numberInTurn_of_reset rfl, ⟨consistent_default, by simp [htake]⟩, ⟨?_, ?_, trackerBounded_reset⟩,
    (queueNumbered_iff _).mpr (QueueInOrder.empty _ AcceptQueue.reset), bufferSound_reset⟩
  · simp [State.reset, Pipeline.reset]
  · simp [State.reset]
  · simp [State.reset]
  · simp [State.reset]

end Sys2Proof.Machine
end

section
/-! The uplink frame of a crossing start, and the throttle evaluated for it (R43 to R51). -/

namespace Sys2Proof.Machine

/-! ### Attention (R46, R182) -/

/-- The bits of the causes are the ten bits of a cause set (R181). -/
theorem exists_cause_bit_eq {i : Nat} (h : i < 10) : ∃ c ∈ causes, c.bit = i := by
  revert i
  decide

theorem Cause.bit_lt (c : Cause) : c.bit < 10 := by
  cases c <;> decide

/-- Attention stands for one cause with both its flag and its enable set (R182). -/
theorem attention_iff (s : State) :
    attention s = true ↔
      ∃ c ∈ causes, s.monitor.flags.getLsbD c.bit = true ∧ s.monitor.enables.getLsbD c.bit = true := by
  have hbits : s.monitor.flags &&& s.monitor.enables ≠ 0 ↔
      ∃ i < 10, s.monitor.flags.getLsbD i = true ∧ s.monitor.enables.getLsbD i = true := by
    rw [ne_eq, BitVec.eq_of_getLsbD_eq_iff]
    simp
  rw [attention, Monitor.attention, decide_eq_true_iff, hbits]
  constructor
  · rintro ⟨i, hi, hset⟩
    obtain ⟨c, hc, rfl⟩ := exists_cause_bit_eq hi
    exact ⟨c, hc, hset⟩
  · rintro ⟨c, -, hset⟩
    exact ⟨c.bit, c.bit_lt, hset⟩

/-! ### The parts of a frame (R45, R47, R65) -/

/-- No column is written while frozen and no primitive is real while Unsynced, so four zero primitives are handed over (R65). -/
theorem handedPrimitives_of_not_real {s : State} (h : s.pipeline.frozen = true ∨ s.timer.sync = .unsynced) :
    handedPrimitives s = Quad.all ⟨0, .none⟩ := by
  have hreal : primitivesReal s = false := by
    rcases h with hfrozen | hsync
    · simp [primitivesReal, writesColumn, hfrozen]
    · simp [primitivesReal, hsync]
  rw [handedPrimitives, hreal, if_neg (by decide)]

theorem uplinkFrame_turnStart_iff {s : State} {p : Position} (h : s.timer.position = some p) :
    (uplinkFrame s).turnStart = true ↔ p.number = 0 := by
  simp [uplinkFrame, crossingNumber, h]

/-- Sending a frame and closing its crossing change nothing the frame tells, so it can be read from the state they leave. -/
theorem closeCrossing_sendUplink_uplink (s : State) :
    (closeCrossing (sendUplink s)).trigger.uplink = some (uplinkFrame (closeCrossing (sendUplink s))) := rfl

/-! ### The throttle evaluation (R48 to R51) -/

theorem throttleOnCondition_iff (s : State) :
    throttleOnCondition s = true ↔
      queueOn s ≤ s.queue.entries.length ∨ descriptorOn s ≤ s.buffer.ring.length ∨
        8192 - s.buffer.wordsInUse < payloadOn s := by
  simp only [throttleOnCondition, Bool.or_eq_true, decide_eq_true_eq, or_assoc]
  rfl

theorem throttleOffCondition_iff (s : State) :
    throttleOffCondition s = true ↔
      s.queue.entries.length ≤ queueOff s ∧ s.buffer.ring.length ≤ descriptorOff s ∧
        payloadOff s ≤ 8192 - s.buffer.wordsInUse := by
  simp only [throttleOffCondition, Bool.and_eq_true, decide_eq_true_eq, and_assoc]
  rfl

/-- An evaluation ends On where an Off throttle meets an on condition, or an On throttle misses an off condition (R50, R51). -/
theorem throttleAfter_eq_on_iff (s : State) :
    throttleAfter s = .on ↔
      if s.trigger.throttle = .off then throttleOnCondition s = true else ¬ throttleOffCondition s = true := by
  cases h : s.trigger.throttle with
  | off => simp [throttleAfter, h]
  | on => simp [throttleAfter, h]

theorem sendUplink_throttle_of_run {s : State} (h : s.run.state = .run) :
    (sendUplink s).trigger.throttle = throttleAfter s := by
  simp [sendUplink, evaluateThrottle, h]

/-! ### The frame of a crossing start -/

/-- The state a crossing start forms its uplink frame from: the event path advanced, the words sent, an empty chain drained. -/
def crossingAtFrame (pairs : Oct CodePair) (s : State) : State :=
  drain (sendWords (processEvents (sampledCrossing pairs s)))

theorem startCrossing_eq_sendUplink (pairs : Oct CodePair) (s : State) :
    startCrossing pairs s = closeCrossing (sendUplink (crossingAtFrame pairs s)) := startCrossing_eq pairs s

/-- The frame a crossing start sends is the one its last state gives (R43). -/
theorem startCrossing_uplink (pairs : Oct CodePair) (s : State) :
    (startCrossing pairs s).trigger.uplink = some (uplinkFrame (startCrossing pairs s)) := by
  rw [startCrossing_eq_sendUplink]
  exact closeCrossing_sendUplink_uplink _

/-- Settles O18: the frame is that of the last state, part by part. -/
theorem uplinkFrameContents : Obligations.UplinkFrameContents := by
  intro pairs s hwhole
  obtain ⟨p, f, ⟨hp, -⟩, -⟩ := enterCrossing_entered hwhole
  have hposition : (startCrossing pairs s).timer.position = some p := by rw [(startCrossing_frame pairs s).1, hp]
  refine ⟨_, p, _, exec_crossingStart pairs s, hposition, startCrossing_uplink pairs s, rfl, attention_iff _,
    uplinkFrame_turnStart_iff hposition, fun h tower => ?_⟩
  rw [uplinkFrame, handedPrimitives_of_not_real h, Quad.get_all]

/-! ### The throttle of a crossing start -/

/-- In Run no chain is drained, so the frame finds the run state, the throttle and the settings the crossing was entered with. -/
theorem crossingAtFrame_of_run {s : State} {p : Position} {f : Forming} (he : EnteredAt s p f) (hr : s.run.state = .run)
    (pairs : Oct CodePair) :
    (crossingAtFrame pairs s).run = s.run ∧ (crossingAtFrame pairs s).trigger = s.trigger ∧
      (crossingAtFrame pairs s).settings = s.settings := by
  have hentered : enterCrossing s = s := enterCrossing_of_enteredAt he
  have hrun : (sendWords (processEvents (sampledCrossing pairs s))).run = s.run := by
    simp [sampledCrossing, deliveredCrossing, deliverPairs, hentered]
  have hdrain : crossingAtFrame pairs s = sendWords (processEvents (sampledCrossing pairs s)) :=
    drain_of_not (by rw [hrun, hr]; simp)
  rw [hdrain]
  refine ⟨hrun, ?_, ?_⟩ <;> simp [sampledCrossing, deliveredCrossing, deliverPairs, hentered]

/-- Settles O19: the evaluation for the frame reads the occupancies the crossing start leaves. -/
theorem throttleEvaluated : Obligations.ThrottleEvaluated := by
  intro pairs s p f he hr
  obtain ⟨hrun, htrigger, hsettings⟩ := crossingAtFrame_of_run he hr pairs
  have hthrottle : (startCrossing pairs s).trigger.throttle = throttleAfter (crossingAtFrame pairs s) := by
    rw [startCrossing_eq_sendUplink, ← sendUplink_throttle_of_run (hrun ▸ hr)]
    simp
  have hqueue : (startCrossing pairs s).queue = (crossingAtFrame pairs s).queue := by simp [startCrossing_eq_sendUplink]
  have hbuffer : (startCrossing pairs s).buffer = (crossingAtFrame pairs s).buffer := by simp [startCrossing_eq_sendUplink]
  refine ⟨_, exec_crossingStart pairs s, ?_⟩
  rw [hthrottle, throttleAfter_eq_on_iff, throttleOnCondition_iff, throttleOffCondition_iff, hqueue, hbuffer, htrigger]
  simp only [queueOn, queueOff, descriptorOn, descriptorOff, payloadOn, payloadOff, activeNat, active_congr hsettings]

end Sys2Proof.Machine
end

section
/-! The Tower Sum Unit at a crossing start: the sums of the column written, the histories, the primitives of the frame, and the
TowerInvalid occurrences (R53 to R65). -/

namespace Sys2Proof.Machine

/-! ### Records and their marks (R53, R56) -/

theorem Cell.contributes_iff (c : Cell) :
    c.contributes = true ↔ (c.state = .good ∨ c.state = .saturated) ∧ c.source ≠ some .quiet := by
  cases h : c.state <;> simp [Cell.contributes, Cell.usable, h]

theorem Cell.invalidates_iff (c : Cell) :
    c.invalidates = true ↔ c.state = .empty ∨ c.state = .fault ∧ c.source ≠ some .quiet := by
  cases h : c.state <;> simp [Cell.invalidates, h]

theorem inTower_iff (s : State) (t : Tower) (ch : Channel) :
    inTower s t ch = true ↔ towerAssignment s ch = t.val := by
  rw [inTower, beq_iff_eq]

/-! ### Sums (R55 to R57) -/

/-- The unified sample of each gain (R55). -/
theorem unify_of_high {hgPed lgPed ratio : Int} {c : Cell} (h : c.gain = .high) :
    unify hgPed lgPed ratio c = 4 * (c.code.toNat : Int) - hgPed := by
  simp only [unify, subtractPedestal, h]

theorem unify_of_low {hgPed lgPed ratio : Int} {c : Cell} (h : c.gain = .low) :
    unify hgPed lgPed ratio c = ((4 * (c.code.toNat : Int) - lgPed) * ratio + 128) / 256 := by
  simp only [unify, subtractPedestal, h]

/-- A channel of the tower whose record contributes adds its weighted sample, every other channel 0 (R53, R57). -/
theorem channelContribution_eq (s : State) (cells : Oct Cell) (t : Tower) (ch : Channel) :
    channelContribution s cells t ch
      = if towerAssignment s ch = t.val ∧
            ((cells.get ch).state = .good ∨ (cells.get ch).state = .saturated) ∧ (cells.get ch).source ≠ some .quiet then
          (unify (hgPedestal s ch) (lgPedestal s ch) (gainRatio s ch) (cells.get ch) * triggerWeight s ch + 32768) / 65536
        else 0 := by
  simp only [channelContribution, Bool.and_eq_true, inTower_iff, Cell.contributes_iff, contribution]

theorem towerSum_invalid_iff (s : State) (cells : Oct Cell) (t : Tower) :
    (towerSum s cells t).invalid = true ↔ ∃ ch : Channel, towerAssignment s ch = t.val ∧
      ((cells.get ch).state = .empty ∨ (cells.get ch).state = .fault ∧ (cells.get ch).source ≠ some .quiet) := by
  simp only [towerSum, List.any_eq_true, Bool.and_eq_true, inTower_iff, Cell.invalidates_iff, mem_channels, true_and]

/-- A Saturated record marks its tower wherever it contributes (R56, R57). -/
theorem towerSum_saturated_iff (s : State) (cells : Oct Cell) (t : Tower) :
    (towerSum s cells t).saturated = true ↔ ∃ ch : Channel, towerAssignment s ch = t.val ∧
      (cells.get ch).state = .saturated ∧ (cells.get ch).source ≠ some .quiet := by
  have hmark : ∀ c : Cell, c.contributes = true ∧ c.state = .saturated ↔ c.state = .saturated ∧ c.source ≠ some .quiet := by
    intro c
    rw [Cell.contributes_iff]
    exact ⟨fun ⟨⟨_, hsource⟩, hstate⟩ => ⟨hstate, hsource⟩, fun ⟨hstate, hsource⟩ => ⟨⟨.inr hstate, hsource⟩, hstate⟩⟩
  simp only [towerSum, List.any_eq_true, Bool.and_eq_true, inTower_iff, decide_eq_true_eq, mem_channels, true_and, and_assoc,
    hmark]

/-- The sums read nothing of the state but the settings. -/
theorem towerSum_congr {s t : State} (hs : t.settings = s.settings) (cells : Oct Cell) (tower : Tower) :
    towerSum t cells tower = towerSum s cells tower := by
  have hin : inTower t tower = inTower s tower := by
    funext ch
    simp only [inTower, towerAssignment, active_congr hs]
  have hadds : channelContribution t cells tower = channelContribution s cells tower := by
    funext ch
    simp only [channelContribution, hin, hgPedestal, lgPedestal, gainRatio, triggerWeight, active_congr hs]
  simp only [towerSum, hin, hadds]

/-! ### Histories (R58) -/

theorem updateTowers_of_position {s : State} {p : Position} (hp : s.timer.position = some p)
    (hf : s.pipeline.frozen = false) (tower : Tower) :
    (updateTowers s).towers.get tower
      = (s.towers.get tower).shift
          (towerSum s (storedColumn s.pipeline (columnSlot p.index)).column.cells tower) := by
  simp [updateTowers, hp, hf]

/-- The state a crossing start sums its towers on: the column written. -/
def writtenCrossing (pairs : Oct CodePair) (s : State) : State := writeColumn pairs (deliveredCrossing pairs s)

theorem sampledCrossing_eq (pairs : Oct CodePair) (s : State) :
    sampledCrossing pairs s = accumulatePedestals pairs (reportTowers (updateTowers (writtenCrossing pairs s))) := rfl

/-- When the column of an entered crossing has been written, the timer, the settings, the histories and the TowerInvalid count are
those the crossing was entered with, and the pipeline is the one the crossing start leaves. -/
theorem writtenCrossing_frame {s : State} {p : Position} {f : Forming} (he : EnteredAt s p f) (pairs : Oct CodePair) :
    (writtenCrossing pairs s).timer = s.timer ∧
    (writtenCrossing pairs s).settings = s.settings ∧
    (writtenCrossing pairs s).towers = s.towers ∧
    (writtenCrossing pairs s).pipeline = (startCrossing pairs s).pipeline ∧
    (writtenCrossing pairs s).monitor.counts.towerInvalid = s.monitor.counts.towerInvalid := by
  obtain ⟨-, htimer, -, -, htowers, -, hsettings, -, -, hmonitor⟩ := deliveredCrossing_frame pairs s
  rw [enterCrossing_of_enteredAt he] at htimer htowers hsettings hmonitor
  obtain ⟨-, hcount, -⟩ := (writeColumn_reports pairs (deliveredCrossing pairs s)).sameFor (c := .towerInvalid) (by decide)
  rw [hmonitor] at hcount
  refine ⟨?_, ?_, ?_, (startCrossing_inputs_pipeline pairs s).2.symm, hcount⟩ <;>
    simp [writtenCrossing, htimer, htowers, hsettings]

/-- An unfrozen pipeline stays unfrozen over a crossing start. -/
theorem startCrossing_unfrozen {s : State} {p : Position} {f : Forming} (he : EnteredAt s p f)
    (hf : s.pipeline.frozen = false) (pairs : Oct CodePair) : (startCrossing pairs s).pipeline.frozen = false := by
  rw [(startCrossing_of_unfrozen he hf pairs).1]
  exact hf

/-- After the histories are updated a crossing start leaves them alone. -/
theorem startCrossing_towers (pairs : Oct CodePair) (s : State) :
    (startCrossing pairs s).towers = (updateTowers (writtenCrossing pairs s)).towers := by
  simp [startCrossing_eq, sampledCrossing_eq]

/-- Unfrozen, a crossing start of an entered crossing shifts every history by the sum of the column it has written (R54, R58). -/
theorem startCrossing_history {s : State} {p : Position} {f : Forming} (he : EnteredAt s p f)
    (hf : s.pipeline.frozen = false) (pairs : Oct CodePair) (tower : Tower) :
    (startCrossing pairs s).towers.get tower
      = (s.towers.get tower).shift
          (towerSum s (storedColumn (startCrossing pairs s).pipeline (p.index % 256)).column.cells tower) := by
  obtain ⟨htimer, hsettings, htowers, hpipeline, -⟩ := writtenCrossing_frame he pairs
  have hposition : (writtenCrossing pairs s).timer.position = some p := by rw [htimer, he.1]
  have hfrozen : (writtenCrossing pairs s).pipeline.frozen = false := by
    rw [hpipeline, startCrossing_unfrozen he hf]
  rw [startCrossing_towers, updateTowers_of_position hposition hfrozen, towerSum_congr hsettings, htowers, hpipeline,
    columnSlot_natCast]

/-! ### Decisions (R59 to R64) -/

theorem TowerHistory.centreSaturated_eq (h : TowerHistory) :
    h.centreSaturated = h.middle.any fun x => x.saturated := by
  cases hm : h.middle <;> simp [centreSaturated, hm]

theorem TowerHistory.someInvalid_eq (h : TowerHistory) :
    h.someInvalid
      = (h.older.any (fun x => x.invalid) || h.middle.any (fun x => x.invalid) || h.newest.any fun x => x.invalid) := by
  cases ho : h.older <;> cases hm : h.middle <;> cases hn : h.newest <;> simp [someInvalid, ho, hm, hn, Bool.or_assoc]

section Decision

variable {pair : Bool} {g : Nat} {policy : Int} {h : TowerHistory}

/-- Step 1 of R59. -/
theorem decidePrimitive_of_centreSaturated (hs : h.centreSaturated = true) :
    decidePrimitive pair g policy h = ⟨255, .saturated⟩ := by
  rw [decidePrimitive, if_pos hs]

/-- Step 2 of R59 with an invalid entry (R60). -/
theorem decidePrimitive_of_someInvalid (hs : h.centreSaturated = false) (hi : h.someInvalid = true) :
    decidePrimitive pair g policy h = if policy = 1 then ⟨255, .invalid⟩ else ⟨0, .invalid⟩ := by
  rw [decidePrimitive, if_neg (by simp [hs]), if_pos hi, invalidPrimitive]

/-- Step 2 of R59 with no invalid entry and an absent one (R60). -/
theorem decidePrimitive_of_absent (hs : h.centreSaturated = false) (hi : h.someInvalid = false)
    (ha : h.older = none ∨ h.middle = none ∨ h.newest = none) : decidePrimitive pair g policy h = ⟨0, .invalid⟩ := by
  rw [decidePrimitive, if_neg (by simp [hs]), if_neg (by simp [hi])]
  split
  · next hold hmid hnew => simp [hold, hmid, hnew] at ha
  · rfl

/-- Steps 3 and 4 of R59: the three entries are present and valid. -/
theorem decidePrimitive_of_present {a b c : TowerSum} (hs : h.centreSaturated = false) (hi : h.someInvalid = false)
    (hold : h.older = some a) (hmid : h.middle = some b) (hnew : h.newest = some c) :
    decidePrimitive pair g policy h
      = if a.sum < b.sum ∧ c.sum ≤ b.sum then compress g (peakValue pair a.sum b.sum c.sum) else ⟨0, .none⟩ := by
  simp only [decidePrimitive, hs, hi, hold, hmid, hnew, Bool.false_eq_true, if_false]

end Decision

/-- A peak of value 0 or below is sent as no peak is: the tests of R62 and the sign of R64 in one condition. -/
theorem ite_compress_eq (rises falls : Prop) [Decidable rises] [Decidable falls] (g : Nat) (v : Int) :
    (if rises ∧ falls then compress g v else ⟨0, .none⟩)
      = if rises ∧ falls ∧ 0 < v then
          if 255 < (v + 2 ^ g / 2) / 2 ^ g then ⟨255, .saturated⟩ else ⟨BitVec.ofInt 8 ((v + 2 ^ g / 2) / 2 ^ g), .none⟩
        else ⟨0, .none⟩ := by
  by_cases hv : 0 < v
  · simp only [compress, hv, and_true, if_neg (Int.not_le.mpr hv)]
  · simp only [compress, hv, and_false, if_pos (Int.not_lt.mp hv), if_false, ite_self]

/-! ### Frames (R65) -/

/-- While Synced, a crossing whose column is written hands over the primitive every history gives (R65). -/
theorem handedPrimitives_of_real {s : State} (h : primitivesReal s = true) (tower : Tower) :
    (handedPrimitives s).get tower
      = decidePrimitive (towerPairMode s tower) (towerShift s tower) (invalidPolicy s tower) (s.towers.get tower) := by
  rw [handedPrimitives, if_pos h, Quad.get_ofFn, towerPrimitive]

theorem primitivesReal_of_synced {s : State} {p : Position} (hp : s.timer.position = some p)
    (hf : s.pipeline.frozen = false) (hsync : s.timer.sync = .synced) : primitivesReal s = true := by
  simp [primitivesReal, writesColumn, hp, hf, hsync]

theorem primitivesReal_of_unsynced {s : State} (hsync : s.timer.sync = .unsynced) : primitivesReal s = false := by
  simp [primitivesReal, hsync]

/-- While Synced, the frame of an unfrozen crossing start carries the decision on every history the crossing start leaves, under the
settings it was entered with (R59, R63, R65). -/
theorem startCrossing_primitive {s : State} {p : Position} {f : Forming} (he : EnteredAt s p f)
    (hf : s.pipeline.frozen = false) (hsync : s.timer.sync = .synced) (pairs : Oct CodePair) (tower : Tower) :
    (uplinkFrame (startCrossing pairs s)).primitives.get tower
      = decidePrimitive (towerPairMode s tower) (towerShift s tower) (invalidPolicy s tower)
          ((startCrossing pairs s).towers.get tower) := by
  obtain ⟨htimer, hsettings, -⟩ := startCrossing_frame pairs s
  rw [enterCrossing_of_enteredAt he] at htimer hsettings
  have hreal : primitivesReal (startCrossing pairs s) = true :=
    primitivesReal_of_synced (p := p) (by rw [htimer]; exact he.1) (startCrossing_unfrozen he hf pairs)
      (by rw [htimer]; exact hsync)
  rw [uplinkFrame, handedPrimitives_of_real hreal]
  simp only [towerPairMode, towerShift, invalidPolicy, activeOn, activeNat, active_congr hsettings]

/-! ### TowerInvalid (R61) -/

/-- Reports of one cause raise its count by their number, saturating (R181). -/
theorem foldl_reportIf_count {β : Type} (c : Cause) (b : β → Bool) (l : List β) (s : State)
    (h : s.monitor.counts.get c ≤ Config.countLimit) :
    (l.foldl (fun u x => reportIf (b x) c u) s).monitor.counts.get c
      = min (s.monitor.counts.get c + (l.filter b).length) Config.countLimit := by
  induction l generalizing s with
  | nil => exact (Nat.min_eq_left h).symm
  | cons x l ih =>
    rw [List.foldl_cons]
    cases hx : b x with
    | false => rw [reportIf_false, ih s h, List.filter_cons_of_neg (by simp [hx])]
    | true =>
      have hcount : (report c s).monitor.counts.get c = satInc Config.countLimit (s.monitor.counts.get c) := by
        simp [CauseCounts.get_bump]
      rw [reportIf_true, ih _ (hcount ▸ satInc_le h), hcount, List.filter_cons_of_pos hx, List.length_cons, satInc]
      split <;> omega

/-- Where no primitive is real, no tower reports (R61, R65). -/
theorem reportTowers_of_not_real {s : State} (h : primitivesReal s = false) : reportTowers s = s :=
  foldl_same _ _ fun _ _ => by rw [h, Bool.false_and, reportIf_false]

/-- One TowerInvalid is counted for every tower that signals (R61). -/
theorem reportTowers_count {s : State} (h : primitivesReal s = true) (hc : s.monitor.counts.towerInvalid ≤ 65535) :
    (reportTowers s).monitor.counts.towerInvalid
      = min (s.monitor.counts.towerInvalid + (([0, 1, 2, 3] : List Tower).filter (towerSignals s)).length) 65535 := by
  have hcount := foldl_reportIf_count .towerInvalid (towerSignals s) [0, 1, 2, 3] s hc
  simp only [reportTowers, h, Bool.true_and]
  exact hcount

/-- After the report of the towers a crossing start counts no TowerInvalid. -/
theorem startCrossing_towerInvalid (pairs : Oct CodePair) (s : State) :
    (startCrossing pairs s).monitor.counts.towerInvalid
      = (reportTowers (updateTowers (writtenCrossing pairs s))).monitor.counts.towerInvalid := by
  obtain ⟨-, hevents, -⟩ := processEvents_sameFor (c := .towerInvalid) (by decide) (by decide) (sampledCrossing pairs s)
  have hrest : (startCrossing pairs s).monitor = (processEvents (sampledCrossing pairs s)).monitor := by
    simp [startCrossing_eq]
  have hsampled : (sampledCrossing pairs s).monitor = (reportTowers (updateTowers (writtenCrossing pairs s))).monitor := by
    simp [sampledCrossing_eq]
  rw [hrest, ← hsampled]
  exact hevents

/-- A tower signals by its policy and its history alone (R61). -/
theorem towerSignals_eq (s : State) (tower : Tower) :
    towerSignals s tower
      = (!(s.towers.get tower).centreSaturated && (s.towers.get tower).someInvalid && decide (invalidPolicy s tower = 2)) :=
  rfl

/-- While Unsynced a crossing start of an entered crossing counts no TowerInvalid (R61, R65). -/
theorem startCrossing_towerInvalid_of_unsynced {s : State} {p : Position} {f : Forming} (he : EnteredAt s p f)
    (hsync : s.timer.sync = .unsynced) (pairs : Oct CodePair) :
    (startCrossing pairs s).monitor.counts.towerInvalid = s.monitor.counts.towerInvalid := by
  obtain ⟨htimer, -, -, -, hcount⟩ := writtenCrossing_frame he pairs
  have hreal : primitivesReal (updateTowers (writtenCrossing pairs s)) = false :=
    primitivesReal_of_unsynced (by simp [htimer, hsync])
  rw [startCrossing_towerInvalid, reportTowers_of_not_real hreal, ← hcount]
  simp

/-- While Synced an unfrozen crossing start of an entered crossing counts one TowerInvalid for every tower that signals by the
history it leaves (R61). -/
theorem startCrossing_towerInvalid_of_synced {s : State} {p : Position} {f : Forming} (he : EnteredAt s p f)
    (hf : s.pipeline.frozen = false) (hsync : s.timer.sync = .synced) (hc : s.monitor.counts.towerInvalid ≤ 65535)
    (pairs : Oct CodePair) :
    (startCrossing pairs s).monitor.counts.towerInvalid
      = min (s.monitor.counts.towerInvalid
          + (([0, 1, 2, 3] : List Tower).filter fun tower =>
              !((startCrossing pairs s).towers.get tower).centreSaturated &&
                ((startCrossing pairs s).towers.get tower).someInvalid && decide (invalidPolicy s tower = 2)).length)
          65535 := by
  obtain ⟨htimer, hsettings, -, hpipeline, hcount⟩ := writtenCrossing_frame he pairs
  have hreal : primitivesReal (updateTowers (writtenCrossing pairs s)) = true :=
    primitivesReal_of_synced (p := p) (by simp [htimer, he.1]) (by simp [hpipeline, startCrossing_unfrozen he hf])
      (by simp [htimer, hsync])
  have hbefore : (updateTowers (writtenCrossing pairs s)).monitor.counts.towerInvalid = s.monitor.counts.towerInvalid := by
    simp [hcount]
  have hsignals : towerSignals (updateTowers (writtenCrossing pairs s))
      = fun tower => !((startCrossing pairs s).towers.get tower).centreSaturated &&
          ((startCrossing pairs s).towers.get tower).someInvalid && decide (invalidPolicy s tower = 2) := by
    funext tower
    have hpolicy : invalidPolicy (updateTowers (writtenCrossing pairs s)) tower = invalidPolicy s tower :=
      active_congr (by simp [hsettings]) _ _
    rw [towerSignals_eq, hpolicy, startCrossing_towers]
  rw [startCrossing_towerInvalid, reportTowers_count hreal (by rw [hbefore]; exact hc), hbefore, hsignals]

/-! ### The obligation -/

/-- Settles O16: the histories shift by the sums of the column written, and the frame and the TowerInvalid count follow from the
histories the crossing start leaves. -/
theorem towersAndPrimitives : Obligations.TowersAndPrimitives := by
  intro pairs s p f he hf
  refine ⟨_, _, exec_crossingStart pairs s, startCrossing_uplink pairs s, ?_⟩
  intro cell contributes unified signals
  have hunify : ∀ ch, unify (hgPedestal s ch) (lgPedestal s ch) (gainRatio s ch) (cell ch) = unified ch := by
    intro ch
    cases hg : (cell ch).gain with
    | high => simp only [unify_of_high hg, unified, hg]
    | low => simp only [unify_of_low hg, unified, hg]
  refine ⟨fun tower => ⟨_, startCrossing_history he hf pairs tower, ?_, towerSum_invalid_iff _ _ _,
    towerSum_saturated_iff _ _ _⟩, fun hsync => startCrossing_towerInvalid_of_unsynced he hsync pairs,
    fun hsync => ⟨fun hc => ?_, fun tower => ?_⟩⟩
  · simp only [← hunify]
    exact congrArg List.sum (List.map_congr_left fun ch _ => channelContribution_eq _ _ _ _)
  · have hcount := startCrossing_towerInvalid_of_synced he hf hsync hc pairs
    simp only [TowerHistory.centreSaturated_eq, TowerHistory.someInvalid_eq] at hcount
    exact hcount
  · intro h saturated invalid
    have hs : h.centreSaturated = saturated := h.centreSaturated_eq
    have hi : h.someInvalid = invalid := h.someInvalid_eq
    rw [startCrossing_primitive he hf hsync, ← hs, ← hi]
    refine ⟨decidePrimitive_of_centreSaturated, decidePrimitive_of_someInvalid, decidePrimitive_of_absent,
      fun a ha b hb c hc hsat hinv => ?_⟩
    rw [decidePrimitive_of_present hsat hinv ha hb hc, ite_compress_eq]
    rfl

end Sys2Proof.Machine
end

section
/-! The Window Store slot by slot: what finding a slot gives after a slot is replaced, freed or claimed (R87). -/

namespace Sys2Proof.Machine

theorem findWindow_slot {ws : List Window} {n : Fin 4} {w : Window} (h : findWindow ws n = some w) : w.slot = n := by
  simpa using List.find?_some h

/-- Replacing slot `n` shows when slot `n` is found, and nowhere else. -/
theorem findWindow_updateWindow (ws : List Window) (n k : Fin 4) {f : Window → Window} (hf : ∀ w, (f w).slot = w.slot) :
    findWindow (updateWindow ws n f) k = if k = n then (findWindow ws k).map f else findWindow ws k := by
  have hslot : (fun w : Window => w.slot == k) ∘ (fun w => if w.slot = n then f w else w) = fun w => w.slot == k := by
    funext w
    dsimp only [Function.comp]
    split <;> simp [hf]
  unfold updateWindow
  rw [findWindow, List.find?_map, hslot, ← findWindow]
  cases hw : findWindow ws k with
  | none => simp
  | some w =>
    rw [Option.map_some, findWindow_slot hw]
    split <;> simp

theorem findWindow_updateWindow_of_ne (ws : List Window) {n k : Fin 4} {f : Window → Window}
    (hf : ∀ w, (f w).slot = w.slot) (h : k ≠ n) : findWindow (updateWindow ws n f) k = findWindow ws k := by
  rw [findWindow_updateWindow ws n k hf, if_neg h]

/-- Freeing slot `n` leaves every other slot alone. -/
theorem findWindow_freeWindow_of_ne (ws : List Window) {n k : Fin 4} (h : k ≠ n) :
    findWindow (freeWindow ws n) k = findWindow ws k := by
  unfold findWindow freeWindow
  rw [List.find?_filter]
  refine congrArg (List.find? · ws) (funext fun w => ?_)
  by_cases hk : w.slot = k <;> simp [hk, h]

theorem findWindow_freeWindow_same (ws : List Window) (n : Fin 4) : findWindow (freeWindow ws n) n = none := by
  simp [findWindow, freeWindow]

/-- A slot claimed behind the others hides none of them. -/
theorem findWindow_append_of_some {ws : List Window} {n : Fin 4} {w : Window} (h : findWindow ws n = some w)
    (x : Window) : findWindow (ws ++ [x]) n = some w := by
  unfold findWindow at *
  rw [List.find?_append, h, Option.some_or]

/-- A slot claimed is found where it was Free before. -/
theorem findWindow_append_of_none {ws : List Window} {x : Window} (h : findWindow ws x.slot = none) :
    findWindow (ws ++ [x]) x.slot = some x := by
  unfold findWindow at *
  simp [List.find?_append, h]

/-- With distinct numbers every occupied slot is found by its number. -/
theorem findWindow_of_mem {ws : List Window} (hnodup : (slotNumbers ws).Nodup) {w : Window} (h : w ∈ ws) :
    findWindow ws w.slot = some w := by
  cases hfound : findWindow ws w.slot with
  | none => exact absurd h (by simpa using List.find?_eq_none.mp hfound w)
  | some x =>
    have hx := List.mem_of_find?_eq_some hfound
    rw [List.inj_on_of_nodup_map hnodup hx h (findWindow_slot hfound)]

theorem earliestFull_some {ws : List Window} {w : Window} (h : earliestFull ws = some w) : w ∈ ws ∧ w.state = .full :=
  ⟨List.mem_of_find?_eq_some h, by simpa using List.find?_some h⟩

theorem lowestFree_isNone {ws : List Window} {n : Fin 4} (h : lowestFree ws = some n) : findWindow ws n = none := by
  simpa using List.find?_some h

end Sys2Proof.Machine
end

section
/-! The Event Buffer and the engines that share it: the words held, the Building and the Sent descriptor, the slots of the current
event and of the capture (R87, R90, R116, R118). -/

namespace Sys2Proof.Machine

/-! ### The ring and the words it holds (R116, R118) -/

theorem wordsHeld_append (ring : List Descriptor) (d : Descriptor) :
    wordsHeld (ring ++ [d]) = wordsHeld ring + payloadLength d := by
  simp [wordsHeld]

theorem wordsHeld_cons (d : Descriptor) (rest : List Descriptor) :
    wordsHeld (d :: rest) = payloadLength d + wordsHeld rest := by
  simp [wordsHeld]

theorem olderFinished_append {ring : List Descriptor} {d : Descriptor} :
    olderFinished (ring ++ [d]) ↔
      (∀ x ∈ ring, x.state ≠ .building) ∧ (∀ x ∈ ring.drop 1, x.state ≠ .sent) ∧ (ring ≠ [] → d.state ≠ .sent) := by
  unfold olderFinished
  rw [List.dropLast_concat]
  cases ring with
  | nil => simp
  | cons x rest => simp [or_imp, forall_and]

theorem olderFinished_cons {d : Descriptor} {rest : List Descriptor} :
    olderFinished (d :: rest) ↔
      (rest ≠ [] → d.state ≠ .building) ∧ (∀ x ∈ rest.dropLast, x.state ≠ .building) ∧ (∀ x ∈ rest, x.state ≠ .sent) := by
  cases rest with
  | nil => simp [olderFinished]
  | cons x rest => simp [olderFinished, and_assoc]

/-- The Event Buffer by itself: the words in use are those held and fit, the fill point lies in the store, and every descriptor but
the newest is finished (R116, R118). -/
structure EventBuffer.InOrder (b : EventBuffer) : Prop where
  held : b.wordsInUse = wordsHeld b.ring
  fits : b.wordsInUse ≤ Config.payloadWords
  fill : b.fillPoint < Config.payloadWords
  finished : olderFinished b.ring

/-- A descriptor appended behind finished ones, with its words counted (R119, R120). -/
theorem EventBuffer.InOrder.append {b c : EventBuffer} {d : Descriptor} (h : b.InOrder)
    (hidle : ∀ x ∈ b.ring, x.state ≠ .building) (hd : d.state ≠ .sent) (hring : c.ring = b.ring ++ [d])
    (hwords : c.wordsInUse = b.wordsInUse + payloadLength d) (hfits : c.wordsInUse ≤ Config.payloadWords)
    (hfill : c.fillPoint < Config.payloadWords) : c.InOrder where
  held := by rw [hring, wordsHeld_append, hwords, h.held]
  fits := hfits
  fill := hfill
  finished := by
    rw [hring, olderFinished_append]
    exact ⟨hidle, h.finished.2, fun _ => hd⟩

/-- The newest descriptor removed and its reservation returned (R123). -/
theorem EventBuffer.InOrder.removeNewest {b : EventBuffer} {older : List Descriptor} {d : Descriptor}
    {p : PayloadReference} (h : b.InOrder) (hring : b.ring = older ++ [d]) (hp : d.payload = some p)
    (hstart : p.start < Config.payloadWords) :
    (removeNewest b).InOrder ∧ p.length ≤ b.wordsInUse ∧ ∀ x ∈ older, x.state ≠ .building := by
  obtain ⟨hheld, hfits, -, hfinished⟩ := h
  rw [hring, wordsHeld_append, payloadLength, hp] at hheld
  replace hheld : b.wordsInUse = wordsHeld older + p.length := hheld
  rw [hring, olderFinished_append] at hfinished
  obtain ⟨hbuilding, hsent, -⟩ := hfinished
  rw [removeNewest_append hring hp]
  refine ⟨⟨?_, ?_, hstart, fun x hx => hbuilding x (List.dropLast_subset _ hx), hsent⟩, ?_, hbuilding⟩
  · show b.wordsInUse - p.length = wordsHeld older
    omega
  · exact (Nat.sub_le _ _).trans hfits
  · omega

/-- A ready oldest descriptor becomes Sent (R130). -/
theorem EventBuffer.InOrder.send {b : EventBuffer} {d : Descriptor} {rest : List Descriptor} (h : b.InOrder)
    (hring : b.ring = d :: rest) : EventBuffer.InOrder { b with ring := { d with state := .sent } :: rest } where
  held := by
    rw [h.held, hring]
    rfl
  fits := h.fits
  fill := h.fill
  finished := by
    have hfinished := h.finished
    rw [hring, olderFinished_cons] at hfinished
    exact olderFinished_cons.mpr ⟨by simp, hfinished.2⟩

/-- The oldest descriptor and its payload freed (R122). -/
theorem EventBuffer.InOrder.free {b : EventBuffer} {d : Descriptor} {rest : List Descriptor} (h : b.InOrder)
    (hring : b.ring = d :: rest) : (b.free d rest).InOrder where
  held := by
    have hheld := h.held
    rw [hring, wordsHeld_cons] at hheld
    show b.wordsInUse - payloadLength d = wordsHeld rest
    omega
  fits := (Nat.sub_le _ _).trans h.fits
  fill := h.fill
  finished := by
    have hfinished := h.finished
    rw [hring, olderFinished_cons] at hfinished
    exact ⟨hfinished.2.1, fun x hx => hfinished.2.2 x (List.mem_of_mem_drop hx)⟩

/-! ### The reservation of the current event (R94, R95) -/

/-- A channel places at most what the reservation keeps for it (R94, R108). -/
theorem channelWords_length_le (x : Snapshot) (w : Window) (ch : Channel) :
    (channelWords x w ch).length ≤ 3 + rawWordCount w.length := by
  unfold channelWords
  split
  · dsimp only
    split
    · unfold recordWords
      dsimp only
      split
      · simp
        omega
      · simp
    · simp
  · simp

theorem headerLength_le (m : Option TestMatch) : headerLength m ≤ 4 := by
  unfold headerLength
  split <;> omega

theorem channelsPlaced_le {b : Building} {w : Window} (h : placedWithin b w) : b.channelsPlaced ≤ 7 := by
  have hchannel := b.channel.isLt
  unfold Building.channelsPlaced
  cases hphase : b.phase with
  | begun | first | due => exact Nat.le_of_lt_succ hchannel
  | placed =>
    have hne := Fin.val_ne_of_ne (h.2 hphase)
    show b.channel.val + 1 ≤ 7
    omega

/-- With one channel more the records still fit in the reservation (R94). -/
theorem recordPosition_add_le {b : Building} {w : Window} (h : placedWithin b w) (x : Snapshot) (ch : Channel) :
    b.recordPosition + (channelWords x w ch).length ≤ reservation w.length := by
  have hplaced : (b.channelsPlaced + 1) * (3 + rawWordCount w.length) ≤ 8 * (3 + rawWordCount w.length) :=
    Nat.mul_le_mul_right _ (Nat.succ_le_succ (channelsPlaced_le h))
  rw [Nat.add_mul, Nat.one_mul] at hplaced
  have hposition := h.1
  have hheader := headerLength_le w.testMatch
  have hwords := channelWords_length_le x w ch
  unfold reservation
  omega

/-! ### The engines and the slots they hold (R87, R90) -/

/-- The current event `b` holds the newest descriptor, Building with a matching reservation, and a slot In use (R87, R90). -/
def Building.Holds (b : Building) (ring : List Descriptor) (ws : List Window) : Prop :=
  ∃ w d p, findWindow ws b.slot = some w ∧ w.state = .inUse ∧ ring.getLast? = some d ∧ d.state = .building ∧
    d.payload = some p ∧ p.start < Config.payloadWords ∧ p.length = reservation w.length ∧ placedWithin b w

/-- The Event Buffer is sound beside the engines and the slots they hold, and no two slots have one number. -/
structure ChainSound (b : EventBuffer) (recon : Option Building) (capture : Option Capture) (ws : List Window) : Prop where
  order : b.InOrder
  idle : recon = none → ∀ d ∈ b.ring, d.state ≠ .building
  current : ∀ x ∈ recon, x.Holds b.ring ws
  filling : ∀ c ∈ capture, ∃ w, findWindow ws c.slot = some w ∧ w.state = .filling
  distinct : (slotNumbers ws).Nodup

theorem currentSound_iff (s : State) :
    currentSound s ↔ (s.recon = none → ∀ d ∈ s.buffer.ring, d.state ≠ .building) ∧
      ∀ x ∈ s.recon, x.Holds s.buffer.ring s.windows := by
  unfold currentSound
  cases s.recon with
  | none => simp
  | some b => simp [Building.Holds]

theorem captureSound_iff (s : State) :
    captureSound s ↔ ∀ c ∈ s.capture, ∃ w, findWindow s.windows c.slot = some w ∧ w.state = .filling := by
  unfold captureSound
  cases s.capture with
  | none => simp
  | some c => simp

theorem chainSound_iff (s : State) :
    ChainSound s.buffer s.recon s.capture s.windows ↔ BufferSound s ∧ (slotNumbers s.windows).Nodup := by
  unfold BufferSound
  rw [currentSound_iff, captureSound_iff]
  exact ⟨fun ⟨⟨hheld, hfits, hfill, hfinished⟩, hidle, hcurrent, hfilling, hdistinct⟩ =>
      ⟨⟨hheld, hfits, hfill, hfinished, ⟨hidle, hcurrent⟩, hfilling⟩, hdistinct⟩,
    fun ⟨⟨hheld, hfits, hfill, hfinished, ⟨hidle, hcurrent⟩, hfilling⟩, hdistinct⟩ =>
      ⟨⟨hheld, hfits, hfill, hfinished⟩, hidle, hcurrent, hfilling, hdistinct⟩⟩

theorem chainSound_empty (words : List (Nat × Word)) : ChainSound ⟨[], words, 0, 0⟩ none none [] where
  order := ⟨rfl, Nat.zero_le _, Nat.zero_lt_succ _, by simp [olderFinished]⟩
  idle := by simp
  current := by simp
  filling := by simp
  distinct := List.nodup_nil

/-! ### Capture (R80 to R83) -/

theorem captureCandidate_capture {s : State} (h : (captureCandidate s).isSome = true) : s.capture = none := by
  unfold captureCandidate at h
  split at h
  · next hc => simpa using hc.1
  · cases h

theorem beginCapture_of_none {s : State} (h : captureCandidate s = none) : beginCapture s = s := by
  simp [beginCapture, h]

/-- What a capture begin claims, and the capture it leaves in progress (R80, R82). -/
theorem beginCapture_slots {s : State} {n : Nat} {e : Entry} {rest : List Entry} {slot : Fin 4}
    (h : captureCandidate s = some (n, e, rest, slot)) :
    (beginCapture s).windows = s.windows ++ [claimedWindow s e slot (windowLate s e n)] ∧
      (beginCapture s).capture = if windowLate s e n then none else some ⟨slot, 0⟩ := by
  have hnone : s.capture = none := captureCandidate_capture (by simp [h])
  simp only [beginCapture, h]
  split <;> simp [hnone]

/-- A capture begin claims a Free slot, which the engine then fills unless the window is Late (R80, R82). -/
theorem ChainSound.beginCapture {s : State} (h : ChainSound s.buffer s.recon s.capture s.windows) :
    ChainSound (beginCapture s).buffer (beginCapture s).recon (beginCapture s).capture (beginCapture s).windows := by
  have hdistinct := beginCapture_slotNumbers_nodup h.distinct
  cases hc : captureCandidate s with
  | none => rwa [beginCapture_of_none hc]
  | some x =>
    obtain ⟨n, e, rest, slot⟩ := x
    have hfree := lowestFree_isNone (captureCandidate_some hc).2
    obtain ⟨hwindows, hcapture⟩ := beginCapture_slots hc
    refine ⟨by simpa using h.order, by simpa using h.idle, fun b hb => ?_, fun c hcap => ?_, hdistinct⟩
    · obtain ⟨w, d, p, hw, hrest⟩ := h.current b (by simpa using hb)
      rw [hwindows]
      exact ⟨w, d, p, findWindow_append_of_some hw _, by simpa using hrest⟩
    · rw [hcapture] at hcap
      split at hcap
      · simp at hcap
      · next hlate =>
        obtain rfl : c = ⟨slot, 0⟩ := by simpa using hcap.symm
        rw [hwindows]
        exact ⟨_, findWindow_append_of_none (x := claimedWindow s e slot _) hfree, if_neg hlate⟩

/-- The slot of the current event is not the slot being filled (R87). -/
theorem ChainSound.slot_ne {b : EventBuffer} {recon : Option Building} {capture : Option Capture} {ws : List Window}
    (h : ChainSound b recon capture ws) {x : Building} (hx : x ∈ recon) {c : Capture} (hc : c ∈ capture) :
    x.slot ≠ c.slot := by
  obtain ⟨w, d, p, hw, hstate, -⟩ := h.current x hx
  obtain ⟨v, hv, hfilling⟩ := h.filling c hc
  intro heq
  rw [heq, hv] at hw
  cases hw
  rw [hfilling] at hstate
  cases hstate

/-- A column copy in a capture fills one position of its slot, and ends the capture with the last one (R83). -/
theorem copyColumn_of_capturing {s : State} {c : Capture} {w : Window} (hc : s.capture = some c)
    (hw : findWindow s.windows c.slot = some w) :
    copyColumn s
      = (s.setWindows (updateWindow s.windows c.slot fun x =>
          x.withColumn c.position (windowColumn s w c.position) (w.isLast c.position))).setCapture
          (if w.isLast c.position then none else some { c with position := c.position + 1 }) := by
  simp [copyColumn, hc, hw]

/-- A column copy changes the slot being filled alone, which stays Filling while the capture goes on (R83). -/
theorem ChainSound.copyColumn {s : State} (h : ChainSound s.buffer s.recon s.capture s.windows) :
    ChainSound (copyColumn s).buffer (copyColumn s).recon (copyColumn s).capture (copyColumn s).windows := by
  cases hc : s.capture with
  | none =>
    have hsame : Machine.copyColumn s = s := by simp [Machine.copyColumn, hc]
    rwa [hsame]
  | some cap =>
    obtain ⟨w, hw, hstate⟩ := h.filling cap (by simp [hc])
    have hdistinct : (slotNumbers (Machine.copyColumn s).windows).Nodup := by
      rw [copyColumn_slotNumbers]
      exact h.distinct
    have hcopy := copyColumn_of_capturing hc hw
    have hwindows := congrArg State.windows hcopy
    have hcapture := congrArg State.capture hcopy
    simp only [State.setCapture_windows, State.setWindows_windows, State.setCapture_capture] at hwindows hcapture
    refine ⟨by simpa using h.order, by simpa using h.idle, fun b hb => ?_, fun c hcap => ?_, hdistinct⟩
    · replace hb : b ∈ s.recon := by simpa using hb
      obtain ⟨v, d, p, hv, hrest⟩ := h.current b hb
      rw [hwindows]
      refine ⟨v, d, p, ?_, by simpa using hrest⟩
      rw [findWindow_updateWindow_of_ne _ (by simp) (h.slot_ne hb hc), hv]
    · rw [hcapture] at hcap
      split at hcap
      · simp at hcap
      · next hlast =>
        obtain rfl : c = { cap with position := cap.position + 1 } := by simpa using hcap.symm
        refine ⟨_, by rw [hwindows, findWindow_updateWindow _ _ _ (by simp), if_pos rfl, hw]; rfl, ?_⟩
        simpa [Window.withColumn, hlast] using hstate

/-! ### Begin (R91 to R94) -/

/-- A look that leads to a begin finds a Full slot (R91). -/
theorem reconstructionCandidate_some {s : State} {w : Window} (h : reconstructionCandidate s = some w) :
    s.buffer.ring.length < Config.ringDepth ∧ earliestFull s.windows = some w := by
  unfold reconstructionCandidate at h
  split at h
  · exact ⟨‹_›, h⟩
  · cases h

section Begin

variable {b c : EventBuffer} {recon : Option Building} {capture : Option Capture} {ws : List Window} {w : Window}

/-- The slot being filled is none that has another state (R87). -/
theorem ChainSound.capture_slot_ne (h : ChainSound b recon capture ws) {c : Capture} (hc : c ∈ capture) (hmem : w ∈ ws)
    (hstate : w.state ≠ .filling) : c.slot ≠ w.slot := by
  obtain ⟨v, hv, hfilling⟩ := h.filling c hc
  intro heq
  rw [heq, findWindow_of_mem h.distinct hmem] at hv
  cases hv
  exact hstate hfilling

/-- The event of a slot ends with a finished descriptor and its slot Free, and no event is current (R93, R94, R96). -/
theorem ChainSound.free (h : ChainSound b recon capture ws) (horder : c.InOrder)
    (hidle : ∀ d ∈ c.ring, d.state ≠ .building) (hmem : w ∈ ws) (hstate : w.state ≠ .filling) :
    ChainSound c none capture (freeWindow ws w.slot) where
  order := horder
  idle := fun _ => hidle
  current := by simp
  filling := fun x hx => by
    rw [findWindow_freeWindow_of_ne _ (h.capture_slot_ne hx hmem hstate)]
    exact h.filling x hx
  distinct := h.distinct.sublist (slotNumbers_freeWindow_sublist ws w.slot)

/-- A begin that proceeds: the reservation behind finished descriptors, the slot In use, no channel placed (R92, R94, R119). -/
theorem ChainSound.build (h : ChainSound b none capture ws) (hmem : w ∈ ws) (hstate : w.state ≠ .filling) {d : Descriptor}
    (hd : d.state = .building) (hp : d.payload = some ⟨b.fillPoint, reservation w.length⟩)
    (hfits : b.wordsInUse + reservation w.length ≤ Config.payloadWords) {x : Building} (hslot : x.slot = w.slot)
    (hphase : x.phase = .begun) (hposition : x.recordPosition = headerLength w.testMatch) :
    ChainSound
      { b with
        ring := b.ring ++ [d]
        fillPoint := (b.fillPoint + reservation w.length) % Config.payloadWords
        wordsInUse := b.wordsInUse + reservation w.length }
      (some x) capture (updateWindow ws w.slot fun v => { v with state := .inUse }) where
  order := h.order.append (h.idle rfl) (by simp [hd]) rfl (by simp [payloadLength, hp]) hfits
    (Nat.mod_lt _ (Nat.zero_lt_succ _))
  idle := by simp
  current := fun y hy => by
    obtain rfl : x = y := by simpa using hy
    refine ⟨{ w with state := .inUse }, d, _, ?_, rfl, List.getLast?_concat, hd, hp, h.order.fill, rfl, ?_, ?_⟩
    · rw [hslot, findWindow_updateWindow _ _ _ (by simp), if_pos rfl, findWindow_of_mem h.distinct hmem]
      rfl
    · rw [hposition]
      exact Nat.le_add_right _ _
    · simp [hphase]
  filling := fun y hy => by
    rw [findWindow_updateWindow_of_ne _ (by simp) (h.capture_slot_ne hy hmem hstate)]
    exact h.filling y hy
  distinct := by
    rw [slotNumbers_updateWindow _ _ (by simp)]
    exact h.distinct

end Begin

/-- An event that ends at once leaves a Ready descriptor that holds no words (R93, R94, R120). -/
theorem ChainSound.endAtOnce {s : State} (h : ChainSound s.buffer none s.capture s.windows) {w : Window}
    (hmem : w ∈ s.windows) (hstate : w.state ≠ .filling) (truncated : Bool) :
    ChainSound (endAtOnce w truncated s).buffer none (endAtOnce w truncated s).capture (endAtOnce w truncated s).windows :=
  h.free
    (h.order.append (d := descriptorOf s w .ready truncated none) (h.idle rfl) (by simp [descriptorOf]) rfl rfl
      h.order.fits h.order.fill)
    (fun d hd => by
      rcases List.mem_append.mp hd with hd | hd
      · exact h.idle rfl d hd
      · obtain rfl := List.mem_singleton.mp hd
        simp [descriptorOf])
    hmem hstate

theorem ChainSound.beginEvent {s : State} (h : ChainSound s.buffer s.recon s.capture s.windows) (hrecon : s.recon = none)
    {w : Window} (hw : earliestFull s.windows = some w) :
    ChainSound (beginEvent w s).buffer (beginEvent w s).recon (beginEvent w s).capture (beginEvent w s).windows := by
  obtain ⟨hmem, hfull⟩ := earliestFull_some hw
  have hstate : w.state ≠ .filling := by simp [hfull]
  rw [hrecon] at h
  unfold Machine.beginEvent
  split
  · simpa [hrecon] using h.endAtOnce hmem hstate false
  · split
    · next hroom =>
      have hfits := h.order.fits
      refine h.build hmem hstate (d := descriptorOf s w .building false _) rfl rfl ?_ rfl rfl rfl
      unfold wordsFree at hroom
      omega
    · simpa [hrecon] using h.endAtOnce hmem hstate true

theorem ChainSound.beginReconstruction {s : State} (h : ChainSound s.buffer s.recon s.capture s.windows) :
    ChainSound (beginReconstruction s).buffer (beginReconstruction s).recon (beginReconstruction s).capture
      (beginReconstruction s).windows := by
  cases hlooks : looksForEvent s with
  | false => rwa [beginReconstruction_of_not_looks hlooks]
  | true =>
    rw [beginReconstruction_of_looks hlooks]
    cases hw : reconstructionCandidate s with
    | none => simpa using h
    | some w =>
      simpa using h.beginEvent ((looksForEvent_iff s).mp hlooks).1 (reconstructionCandidate_some hw).2

/-! ### Placement and completion (R95, R96) -/

theorem currentEvent_some {s : State} {b : Building} {w : Window} {d : Descriptor} {p : PayloadReference}
    (h : currentEvent s = some (b, w, d, p)) :
    s.recon = some b ∧ findWindow s.windows b.slot = some w ∧ s.buffer.ring.getLast? = some d ∧ d.payload = some p := by
  unfold currentEvent at h
  split at h
  · split at h
    · cases h
      exact ⟨‹_›, ‹_›, ‹_›, ‹_›⟩
    · cases h
  · cases h

/-- What is sound of the current event: its slot, its descriptor and its reservation (R90). -/
theorem ChainSound.currentEvent {s : State} (h : ChainSound s.buffer s.recon s.capture s.windows) {b : Building}
    {w : Window} {d : Descriptor} {p : PayloadReference} (he : currentEvent s = some (b, w, d, p)) :
    w.state = .inUse ∧ d.state = .building ∧ p.start < Config.payloadWords ∧ p.length = reservation w.length ∧
      placedWithin b w := by
  obtain ⟨hrecon, hw, hd, hp⟩ := currentEvent_some he
  obtain ⟨v, e, q, hv, hinUse, he, hbuilding, hq, hstart, hlength, hplaced⟩ := h.current b hrecon
  rw [hw] at hv
  cases hv
  rw [hd] at he
  cases he
  rw [hp] at hq
  cases hq
  exact ⟨hinUse, hbuilding, hstart, hlength, hplaced⟩

/-- A crossing of the current event changes payload words alone of the buffer (R95). -/
theorem advanceReconstruction_buffer (s : State) :
    (advanceReconstruction s).buffer = { s.buffer with words := (advanceReconstruction s).buffer.words } := by
  unfold advanceReconstruction
  split
  · rfl
  · split
    · rfl
    · split
      · rfl
      · split <;> rfl
      · rfl
      · rfl

/-- A crossing of the current event keeps its slot, and its records within what is reserved for the channels placed (R94, R95). -/
theorem advanceReconstruction_recon (s : State) :
    (advanceReconstruction s).recon = s.recon ∨
      ∃ b w d p x, currentEvent s = some (b, w, d, p) ∧ (advanceReconstruction s).recon = some x ∧ x.slot = b.slot ∧
        (placedWithin b w → placedWithin x w) := by
  cases he : currentEvent s with
  | none => exact .inl (by simp [advanceReconstruction, he])
  | some e =>
    obtain ⟨b, w, d, p⟩ := e
    cases hlooked : reconstructionLooked s with
    | true => exact .inl (by rw [advanceReconstruction_of_looked hlooked])
    | false =>
      suffices ∃ x, (advanceReconstruction s).recon = some x ∧ x.slot = b.slot ∧ (placedWithin b w → placedWithin x w) by
        obtain ⟨x, hx⟩ := this
        exact .inr ⟨b, w, d, p, x, rfl, hx⟩
      simp only [advanceReconstruction, he, hlooked]
      cases hphase : b.phase with
      | begun =>
        refine ⟨_, rfl, rfl, fun h => ⟨?_, by simp⟩⟩
        simpa [Building.channelsPlaced, hphase] using h.1
      | first =>
        by_cases hchannel : b.channel = 7
        · simp only [if_pos hchannel]
          refine ⟨_, rfl, rfl, fun h => ⟨?_, by simp⟩⟩
          simpa [Building.channelsPlaced, hphase] using h.1
        · simp only [if_neg hchannel]
          refine ⟨_, rfl, rfl, fun h => ⟨?_, fun _ => hchannel⟩⟩
          have hposition := h.1
          have hwords := channelWords_length_le b.snapshot w b.channel
          simp only [Building.channelsPlaced, hphase] at hposition ⊢
          rw [Nat.add_mul, Nat.one_mul]
          omega
      | placed =>
        refine ⟨_, rfl, rfl, fun h => ⟨?_, by simp⟩⟩
        have hne := Fin.val_ne_of_ne (h.2 hphase)
        have hnext : (b.channel + 1).val = b.channel.val + 1 := Fin.val_add_one_of_lt' (by simp at hne; omega)
        simpa [Building.channelsPlaced, hphase, hnext] using h.1
      | due => exact ⟨b, (currentEvent_some he).1, rfl, id⟩

theorem ChainSound.advanceReconstruction {s : State} (h : ChainSound s.buffer s.recon s.capture s.windows) :
    ChainSound (advanceReconstruction s).buffer (advanceReconstruction s).recon (advanceReconstruction s).capture
      (advanceReconstruction s).windows := by
  have hcurrent : ChainSound s.buffer (Machine.advanceReconstruction s).recon s.capture s.windows := by
    rcases advanceReconstruction_recon s with hr | ⟨b, w, d, p, x, he, hr, hslot, hplaced⟩
    · rwa [hr]
    · obtain ⟨hinUse, hbuilding, hstart, hlength, hb⟩ := h.currentEvent he
      obtain ⟨-, hw, hd, hp⟩ := currentEvent_some he
      rw [hr]
      refine ⟨h.order, by simp, fun y hy => ?_, h.filling, h.distinct⟩
      obtain rfl : x = y := by simpa using hy
      exact ⟨w, d, p, hslot ▸ hw, hinUse, hd, hbuilding, hp, hstart, hlength, hplaced hb⟩
  rw [advanceReconstruction_buffer]
  obtain ⟨⟨hheld, hfits, hfill, hfinished⟩, hidle, hcurrent, hfilling, hdistinct⟩ := hcurrent
  simpa using (⟨⟨hheld, hfits, hfill, hfinished⟩, hidle, hcurrent, hfilling, hdistinct⟩ :
    ChainSound { s.buffer with words := (Machine.advanceReconstruction s).buffer.words } _ s.capture s.windows)

/-- A completion with words within the reservation leaves a Ready descriptor behind finished ones (R121). -/
theorem EventBuffer.InOrder.complete {b : EventBuffer} {d : Descriptor} {p : PayloadReference} (h : b.InOrder)
    (hd : b.ring.getLast? = some d) (hp : d.payload = some p) (hstart : p.start < Config.payloadWords) {m : Nat}
    (hm : m ≤ p.length) :
    (completeDescriptor b d p m).InOrder ∧ ∀ x ∈ (completeDescriptor b d p m).ring, x.state ≠ .building := by
  obtain ⟨hremoved, hlength, hbuilding⟩ := h.removeNewest (List.dropLast_append_getLast? d hd).symm hp hstart
  rw [removeNewest_append (List.dropLast_append_getLast? d hd).symm hp] at hremoved
  have hfits := h.fits
  refine ⟨hremoved.append hbuilding (d := { d with state := .ready, payload := some ⟨p.start, m⟩ }) (by simp) rfl ?_ ?_
    (Nat.mod_lt _ (Nat.zero_lt_succ _)), fun x hx => ?_⟩
  · show b.wordsInUse - (p.length - m) = b.wordsInUse - p.length + m
    omega
  · exact (Nat.sub_le _ _).trans hfits
  · rcases List.mem_append.mp hx with hx | hx
    · exact hbuilding x hx
    · obtain rfl := List.mem_singleton.mp hx
      simp

theorem ChainSound.completeEvent {s : State} (h : ChainSound s.buffer s.recon s.capture s.windows) :
    ChainSound (completeEvent s).buffer (completeEvent s).recon (completeEvent s).capture (completeEvent s).windows := by
  cases he : Machine.currentEvent s with
  | none =>
    have hsame : Machine.completeEvent s = s := by simp [Machine.completeEvent, he]
    rwa [hsame]
  | some e =>
    obtain ⟨b, w, d, p⟩ := e
    obtain ⟨hinUse, -, hstart, hlength, hplaced⟩ := h.currentEvent he
    obtain ⟨-, hw, hd, hp⟩ := currentEvent_some he
    have hm := (recordPosition_add_le hplaced b.snapshot b.channel).trans_eq hlength.symm
    obtain ⟨hheld, hfits, hfill, hfinished⟩ := h.order
    have hcomplete (words : List (Nat × Word)) :=
      EventBuffer.InOrder.complete (b := { s.buffer with words := words }) ⟨hheld, hfits, hfill, hfinished⟩ hd hp hstart hm
    simp only [Machine.completeEvent, he]
    rw [← findWindow_slot hw]
    exact h.free (hcomplete _).1 (hcomplete _).2 (List.mem_of_find?_eq_some hw) (by simp [hinUse])

/-! ### Resync, Fetch and Release (R31, R122, R123, R130) -/

theorem ChainSound.takeResync {s : State} (h : ChainSound s.buffer s.recon s.capture s.windows) :
    ChainSound (takeResync s).buffer (takeResync s).recon (takeResync s).capture (takeResync s).windows := by
  unfold Machine.takeResync
  split
  · have hempty {b : EventBuffer} (horder : b.InOrder) (hidle : ∀ d ∈ b.ring, d.state ≠ .building) :
        ChainSound b none none [] := ⟨horder, fun _ => hidle, by simp, by simp, List.nodup_nil⟩
    rw [discardWork_eq, discardWork_buffer]
    simp only [changeRunState_frame]
    cases hr : s.recon with
    | none => exact hempty h.order (h.idle hr)
    | some b =>
      obtain ⟨w, d, p, -, -, hd, -, hp, hstart, -⟩ := h.current b hr
      obtain ⟨hremoved, -, hbuilding⟩ := h.order.removeNewest (List.dropLast_append_getLast? d hd).symm hp hstart
      rw [removeNewest_append (List.dropLast_append_getLast? d hd).symm hp] at hremoved ⊢
      exact hempty hremoved hbuilding
  · exact h

/-- A finished oldest descriptor is not the one the current event holds (R90). -/
theorem Building.Holds.of_cons {x : Building} {d : Descriptor} {rest : List Descriptor} {ws : List Window}
    (h : x.Holds (d :: rest) ws) (hd : d.state ≠ .building) : rest ≠ [] ∧ x.Holds rest ws := by
  obtain ⟨w, e, p, hw, hinUse, he, hbuilding, hsound⟩ := h
  have hne : rest ≠ [] := by
    rintro rfl
    obtain rfl : d = e := by simpa using he
    exact hd hbuilding
  rw [List.getLast?_cons_of_ne_nil hne] at he
  exact ⟨hne, w, e, p, hw, hinUse, he, hbuilding, hsound⟩

theorem Building.Holds.cons {x : Building} {rest : List Descriptor} {ws : List Window} (h : x.Holds rest ws)
    (hne : rest ≠ []) (d : Descriptor) : x.Holds (d :: rest) ws := by
  obtain ⟨w, e, p, hw, hinUse, he, hsound⟩ := h
  exact ⟨w, e, p, hw, hinUse, by rwa [List.getLast?_cons_of_ne_nil hne], hsound⟩

theorem ChainSound.fetchOldest {s : State} (h : ChainSound s.buffer s.recon s.capture s.windows) :
    ChainSound (fetchOldest s).1.buffer (fetchOldest s).1.recon (fetchOldest s).1.capture (fetchOldest s).1.windows := by
  unfold Machine.fetchOldest
  split
  · exact h
  · next d rest hring =>
    split
    · exact h
    · next hready =>
      refine ⟨h.order.send hring, fun hr x hx => ?_, fun x hx => ?_, h.filling, h.distinct⟩
      · rcases List.mem_cons.mp hx with rfl | hx
        · simp
        · exact h.idle hr x (by simp [hring, hx])
      · have hholds := h.current x hx
        rw [hring] at hholds
        obtain ⟨hne, hrest⟩ := hholds.of_cons (by simp [hready])
        exact hrest.cons hne _
    · exact h

theorem ChainSound.releaseOldest {s : State} (h : ChainSound s.buffer s.recon s.capture s.windows) (epoch : BitVec 4)
    (event : BitVec 24) :
    ChainSound (releaseOldest epoch event s).1.buffer (releaseOldest epoch event s).1.recon
      (releaseOldest epoch event s).1.capture (releaseOldest epoch event s).1.windows := by
  unfold Machine.releaseOldest
  split
  · exact h
  · next d rest hring =>
    split
    · exact h
    · next hsent =>
      split
      · exact h
      · refine ⟨h.order.free hring, fun hr x hx => ?_, fun x hx => ?_, h.filling, h.distinct⟩
        · exact h.idle hr x (by simp [hring, show x ∈ rest from hx])
        · have hholds := h.current x hx
          rw [hring] at hholds
          exact (hholds.of_cons (by simp [not_not.mp hsent])).2

/-! ### The obligation -/

theorem chainSound_kept : KeptByOperations fun s => ChainSound s.buffer s.recon s.capture s.windows where
  powerOnReset _ _ := chainSound_empty _
  restartPart _ _ := chainSound_empty _
  completeEvent _ h := h.completeEvent
  beginCapture _ h := h.beginCapture
  beginReconstruction _ h := h.beginReconstruction
  copyColumn _ h := h.copyColumn
  advanceReconstruction _ h := h.advanceReconstruction
  takeResync _ h := h.takeResync
  fetchOldest _ h := h.fetchOldest
  releaseOldest epoch event _ h := h.releaseOldest epoch event

/-- Settles O12: every operation that touches the ring, an engine or a slot keeps them sound together, given that no two slots have
one number. -/
theorem bufferSoundKept : Obligations.BufferSoundKept := by
  intro s t hcap hs hstep
  obtain ⟨-, -, hslots, -⟩ := hcap
  exact ((chainSound_iff t).mp (chainSound_kept.step ((chainSound_iff s).mpr ⟨hs, hslots⟩) hstep)).1

end Sys2Proof.Machine
end

section
/-! Test matches and diagnostic accepts (R75, R79). -/

namespace Sys2Proof.Machine

/-! ### The test match of an accept crossing (R75) -/

theorem fireMatches_iff (s : State) (c : Int) (f : Fire) :
    fireMatches s c f = true ↔ injectionDelay s - 1 ≤ c - f.index ∧ c - f.index ≤ injectionDelay s + 1 := by
  simp [fireMatches]

/-- From a first fire on, the later of two kept each time is one of them all, with the largest index. -/
theorem foldl_laterFire_some (fires : List Fire) (b : Fire) :
    ∃ f ∈ b :: fires, fires.foldl laterFire (some b) = some f ∧ ∀ g ∈ b :: fires, g.index ≤ f.index := by
  induction fires generalizing b with
  | nil => exact ⟨b, by simp⟩
  | cons a fires ih =>
    by_cases hle : b.index ≤ a.index
    · obtain ⟨f, hf, hfold, hmax⟩ := ih a
      refine ⟨f, List.mem_cons_of_mem b hf, by simpa [laterFire, hle] using hfold, fun g hg => ?_⟩
      rcases List.mem_cons.mp hg with rfl | hg
      · exact hle.trans (hmax a List.mem_cons_self)
      · exact hmax g hg
    · obtain ⟨f, hf, hfold, hmax⟩ := ih b
      refine ⟨f, List.mem_cons.mpr ((List.mem_cons.mp hf).imp_right (List.mem_cons_of_mem a)),
        by simpa [laterFire, hle] using hfold, fun g hg => ?_⟩
      rcases List.mem_cons.mp hg with rfl | hg
      · exact hmax g List.mem_cons_self
      · rcases List.mem_cons.mp hg with rfl | hg
        · exact (Nat.le_of_not_le hle).trans (hmax b List.mem_cons_self)
        · exact hmax g (List.mem_cons_of_mem b hg)

/-- No fire matches, or the matching fire is one of those that match, with the largest index (R75). -/
theorem matchingFire_cases (s : State) (c : Int) :
    (matchingFire s c = none ∧ ∀ f ∈ s.injection.fires, ¬ fireMatches s c f = true) ∨
      ∃ f ∈ s.injection.fires, matchingFire s c = some f ∧ fireMatches s c f = true ∧
        ∀ g ∈ s.injection.fires, fireMatches s c g = true → g.index ≤ f.index := by
  unfold matchingFire
  cases hfires : s.injection.fires.filter (fireMatches s c) with
  | nil => exact .inl ⟨rfl, List.filter_eq_nil_iff.mp hfires⟩
  | cons b rest =>
    obtain ⟨f, hf, hfold, hmax⟩ := foldl_laterFire_some rest b
    rw [← hfires] at hf hmax
    obtain ⟨hmem, hmatches⟩ := List.mem_filter.mp hf
    exact .inr ⟨f, hmem, hfold, hmatches, fun g hg hgm => hmax g (List.mem_filter.mpr ⟨hg, hgm⟩)⟩

/-- Settles O23, by whether a fire matches. -/
theorem testMatchIsNewest : Obligations.TestMatchIsNewest := by
  intro s c matching
  have hmatching (f : Fire) : fireMatches s c f = true ↔ matching f := fireMatches_iff s c f
  have hcases := matchingFire_cases s c
  simp only [hmatching] at hcases
  unfold testMatchAt
  rcases hcases with ⟨hnone, hno⟩ | ⟨f, hf, hsome, hfm, hmax⟩
  · rw [hnone]
    exact ⟨⟨fun _ => hno, fun _ => rfl⟩, nofun⟩
  · rw [hsome]
    refine ⟨⟨nofun, fun h => absurd hfm (h f hf)⟩, fun m hm => ?_⟩
    cases hm
    exact ⟨f, hf, hfm, hmax, rfl, rfl⟩

/-! ### Diagnostic accepts (R79) -/

theorem exec_diagnosticAccept (age : BitVec 11) (s : State) :
    exec (.diagnosticAccept age) s
      = .next (controlRequest 26 (fun t => (diagnosticIntake age.toNat t, diagnosticReply t age.toNat)) s) := rfl

theorem diagnosticReply_of_not_frozen {s : State} (h : s.pipeline.frozen = false) (a : Nat) :
    diagnosticReply s a = .refused .notFrozen := if_pos h

section Frozen

variable {s : State} {a : Nat} (hf : s.pipeline.frozen = true)
include hf

theorem diagnosticReply_of_range (hr : a < windowPost s ∨ 255 < a + windowPre s) :
    diagnosticReply s a = .refused .range := by
  unfold diagnosticReply
  rw [if_neg (by simp [hf]), if_pos hr]

theorem diagnosticReply_of_full (hr : ¬ (a < windowPost s ∨ 255 < a + windowPre s)) (hq : 16 ≤ s.queue.entries.length) :
    diagnosticReply s a = .refused .full := by
  unfold diagnosticReply
  rw [if_neg (by simp [hf]), if_neg hr, if_pos hq]

theorem diagnosticReply_of_room (hr : ¬ (a < windowPost s ∨ 255 < a + windowPre s)) (hq : s.queue.entries.length < 16) :
    diagnosticReply s a = .done [] := by
  unfold diagnosticReply
  rw [if_neg (by simp [hf]), if_neg hr, if_neg (not_le.mpr hq)]

end Frozen

/-- A diagnostic accept that is refused changes the control port alone (R79). -/
theorem exec_diagnosticAccept_of_refused {s : State} (h : ControlReady s) {age : BitVec 11} {k : RefusalCode}
    (hk : diagnosticReply s age.toNat = .refused k) :
    exec (.diagnosticAccept age) s = .next { s with control := controlAnswering s ((Reply.refused k).words 26) } := by
  rw [exec_diagnosticAccept, controlRequest_of_ready h]
  simp only [diagnosticIntake, hk]
  rfl

/-- A diagnostic accept that is taken appends its entry (R79). -/
theorem exec_diagnosticAccept_of_done {s : State} (h : ControlReady s) {age : BitVec 11}
    (hd : diagnosticReply s age.toNat = .done []) :
    exec (.diagnosticAccept age) s = .next
      { s with
        queue :=
          { s.queue with
            entries := s.queue.entries ++ [diagnosticEntry s age.toNat]
            diagnosticCounter := s.queue.diagnosticCounter + 1 }
        control := controlAnswering s ((Reply.done []).words 26) } := by
  rw [exec_diagnosticAccept, controlRequest_of_ready h]
  simp only [diagnosticIntake, hd, if_pos]
  rfl

/-- Settles O60, row by row of R79. -/
theorem diagnosticAcceptAnswers : Obligations.DiagnosticAcceptAnswers := by
  intro age s h refused outside
  have hrefused {k : RefusalCode} {code : BitVec 5} (hk : diagnosticReply s age.toNat = .refused k)
      (hcode : BitVec.ofNat 5 k.number = code) : refused code := by
    subst hcode
    exact ⟨_, exec_diagnosticAccept_of_refused h hk, rfl, rfl⟩
  refine ⟨fun hf => hrefused (diagnosticReply_of_not_frozen hf _) rfl,
    fun hf hr => hrefused (diagnosticReply_of_range hf hr) rfl,
    fun hf hr hq => hrefused (diagnosticReply_of_full hf hr hq) rfl, fun hf hr hq => ?_⟩
  intro c column
  refine ⟨_, exec_diagnosticAccept_of_done h (diagnosticReply_of_room hf hr hq), rfl, ?_⟩
  have hcrossing : diagnosticCrossing s age.toNat = c := by
    unfold diagnosticCrossing
    cases hhead : s.pipeline.head <;> simp [c, hhead]
  rw [diagnosticEntry, hcrossing]
  clear_value c
  cases c <;> rfl

end Sys2Proof.Machine
end

section
/-! The Capture Engine: a capture begin, the copy of a column, and the copies of a crossing start (R80 to R85). -/

namespace Sys2Proof.Machine

/-! ### Capture begin as a row (R80 to R82) -/

theorem exec_captureBegin (s : State) :
    exec .captureBegin s
      = .next (if (captureCandidate (enterCrossing s)).isSome then beginCapture (enterCrossing s) else s) := rfl

theorem exec_captureBegin_of_possible {s : State} (h : (captureCandidate (enterCrossing s)).isSome = true) :
    exec .captureBegin s = .next (beginCapture (enterCrossing s)) := by
  rw [exec_captureBegin, if_pos h]

/-- The lowest-numbered Free slot is the one below which every slot is occupied (R80). -/
theorem lowestFree_eq_some {ws : List Window} {slot : Fin 4} (hfree : findWindow ws slot = none)
    (hlower : ∀ k, k < slot → findWindow ws k ≠ none) : lowestFree ws = some slot := by
  have hslots : ([0, 1, 2, 3] : List (Fin 4)) = List.finRange 4 := by decide
  rw [lowestFree, hslots, List.find?_eq_some_iff_getElem]
  refine ⟨by simp [hfree], slot.val, by simp, by simp, fun j hj => ?_⟩
  have hne := hlower ⟨j, hj.trans slot.isLt⟩ hj
  simpa [Option.ne_none_iff_isSome] using hne

theorem currentIndex_of_position {s : State} {p : Position} (h : s.timer.position = some p) :
    currentIndex s = some p.index := by
  simp [currentIndex, h]

theorem takenBefore_iff (n : Nat) (e : Entry) : takenBefore n e = true ↔ ∀ i ∈ e.intake, i < n := by
  unfold takenBefore
  cases e.intake <;> simp

theorem windowLate_eq (s : State) (e : Entry) (n : Nat) :
    windowLate s e n
      = decide (e.diagnostic = false ∧ ∃ c ∈ e.accept, 255 < (n : Int) - (c - (windowPre s : Int))) := by
  unfold windowLate
  cases e.accept <;> simp

/-- In an entered crossing a begin finds what R80 asks for. -/
theorem captureCandidate_of_entered {s : State} {p : Position} {f : Forming} {e : Entry} {rest : List Entry}
    {slot : Fin 4} (he : EnteredAt s p f) (hacted : f.captureActed = false) (hcapture : s.capture = none)
    (hentries : s.queue.entries = e :: rest) (htaken : ∀ i ∈ e.intake, i < p.index)
    (hslot : lowestFree s.windows = some slot) : captureCandidate s = some (p.index, e, rest, slot) := by
  obtain ⟨hp, hf, -, -⟩ := he
  simp [captureCandidate, hcapture, captureActed, hf, hacted, currentIndex_of_position hp, hentries, hslot,
    (takenBefore_iff _ _).mpr htaken]

/-- Settles O33: a begin that is possible stays possible once its crossing is entered, and claims the slot it finds. -/
theorem captureBeginEffect : Obligations.CaptureBeginEffect := by
  refine ⟨fun s hnone => ?_, fun s hwhole hsome => ?_,
    fun s p f e rest slot he hacted hcapture hentries htaken hfree hlower => ?_⟩
  · rw [exec_captureBegin, hnone]
    rfl
  · have hpossible := Option.isSome_iff_ne_none.mpr hsome
    obtain ⟨p, f, hentered, -⟩ := enterCrossing_entered hwhole
    refine ⟨?_, p, f, hentered⟩
    rw [exec_captureBegin_of_possible hpossible,
      exec_captureBegin_of_possible (by rwa [enterCrossing_enterCrossing hwhole]), enterCrossing_enterCrossing hwhole]
  · intro late
    have hcandidate := captureCandidate_of_entered he hacted hcapture hentries htaken (lowestFree_eq_some hfree hlower)
    have hlate : windowLate s e p.index = late := windowLate_eq s e p.index
    have hentered := enterCrossing_of_enteredAt he
    obtain ⟨-, hf, -, -⟩ := he
    rw [exec_captureBegin_of_possible (by rw [hentered, hcandidate]; rfl), hentered]
    simp only [beginCapture, hcandidate, hlate]
    clear_value late
    cases late with
    | true =>
      simp only [if_pos, markCapture, updateForming, State.setWindows_timer, State.setQueue_timer, hf, Option.map_some]
      rw [← hcapture]
      rfl
    | false =>
      simp only [Bool.false_eq_true, if_false, markCapture, updateForming, State.setCapture_timer,
        State.setWindows_timer, State.setQueue_timer, hf, Option.map_some]
      rfl

/-! ### The last column as a row (R83, R84) -/

theorem exec_captureComplete (s : State) :
    exec .captureComplete s
      = .next (if lastColumnNext (enterCrossing s) then markCapture (copyColumn (enterCrossing s)) else s) := rfl

theorem exec_captureComplete_of_next {s : State} (h : lastColumnNext (enterCrossing s) = true) :
    exec .captureComplete s = .next (markCapture (copyColumn (enterCrossing s))) := by
  rw [exec_captureComplete, if_pos h]

theorem windowColumn_eq (s : State) (w : Window) (k : Nat) :
    windowColumn s w k = match w.accept with
      | some c => readColumn s (c - (w.pre : Int) + (k : Int))
      | none => Column.empty := by
  unfold windowColumn
  cases w.accept <;> rfl

/-- A window's column is read from the pipeline at the current index alone (R12, R83). -/
theorem windowColumn_congr {s t : State} (hp : t.pipeline = s.pipeline) (ht : t.timer.position = s.timer.position)
    (w : Window) (k : Nat) : windowColumn t w k = windowColumn s w k := by
  unfold windowColumn
  cases w.accept with
  | none => rfl
  | some c => exact readColumn_congr hp ht _

theorem Window.isLast_iff {w : Window} {k : Nat} (h : k < w.pre + 1 + w.post) :
    w.isLast k = true ↔ k + 1 = w.pre + 1 + w.post := by
  unfold Window.isLast Window.length
  rw [decide_eq_true_iff]
  omega

/-- In an entered crossing the last column is next where the engine has not acted and one position is left (R83). -/
theorem lastColumnNext_of_entered {s : State} {p : Position} {f : Forming} {c : Capture} {w : Window}
    (he : EnteredAt s p f) (hacted : f.captureActed = false) (hc : s.capture = some c)
    (hw : findWindow s.windows c.slot = some w) (hlast : w.isLast c.position = true) : lastColumnNext s = true := by
  obtain ⟨-, hf, -, -⟩ := he
  simp [lastColumnNext, hc, hw, hlast, captureActed, hf, hacted]

/-- The last column copied as a row ends the capture and leaves its slot Full (R83, R84). -/
theorem exec_captureComplete_of_entered {s : State} {p : Position} {f : Forming} {slot : Fin 4} {k : Nat} {w : Window}
    (he : EnteredAt s p f) (hacted : f.captureActed = false) (hc : s.capture = some ⟨slot, k⟩)
    (hw : findWindow s.windows slot = some w) (hlast : w.isLast k = true) :
    exec .captureComplete s = .next
      { s with
        timer := { s.timer with forming := some { f with captureActed := true } }
        capture := none
        windows := updateWindow s.windows slot fun x => x.withColumn k (windowColumn s w k) true } := by
  have hentered := enterCrossing_of_enteredAt he
  have hnext := lastColumnNext_of_entered he hacted hc hw hlast
  obtain ⟨-, hf, -, -⟩ := he
  rw [exec_captureComplete_of_next (by rwa [hentered]), hentered, copyColumn_of_capturing hc hw]
  simp only [hlast, if_pos, markCapture, updateForming, State.setCapture_timer, State.setWindows_timer, hf,
    Option.map_some]
  rfl

/-! ### The copy of a crossing start (R83, R84) -/

/-- A begin frees its slot or makes it In use (R87, R92 to R94). -/
theorem beginEvent_windows (w : Window) (s : State) :
    (beginEvent w s).windows = freeWindow s.windows w.slot ∨
      (beginEvent w s).windows = updateWindow s.windows w.slot fun x => { x with state := .inUse } := by
  unfold beginEvent
  split
  · exact .inl rfl
  · split
    · exact .inr rfl
    · exact .inl rfl

theorem beginReconstruction_windows (s : State) :
    (beginReconstruction s).windows = s.windows ∨
      ∃ w, earliestFull s.windows = some w ∧
        ((beginReconstruction s).windows = freeWindow s.windows w.slot ∨
          (beginReconstruction s).windows = updateWindow s.windows w.slot fun x => { x with state := .inUse }) := by
  cases hlooks : looksForEvent s with
  | false => exact .inl (by rw [beginReconstruction_of_not_looks hlooks])
  | true =>
    rw [beginReconstruction_of_looks hlooks]
    cases hw : reconstructionCandidate s with
    | none => exact .inl (by simp)
    | some w => exact .inr ⟨w, (reconstructionCandidate_some hw).2, by simpa using beginEvent_windows w s⟩

/-- A look leaves a Filling slot alone (R91). -/
theorem findWindow_beginReconstruction_of_filling {s : State} (hdistinct : (slotNumbers s.windows).Nodup) {n : Fin 4}
    {w : Window} (hw : findWindow s.windows n = some w) (hstate : w.state = .filling) :
    findWindow (beginReconstruction s).windows n = some w := by
  have hne {v : Window} (hv : earliestFull s.windows = some v) : n ≠ v.slot := by
    obtain ⟨hmem, hfull⟩ := earliestFull_some hv
    rintro rfl
    rw [findWindow_of_mem hdistinct hmem] at hw
    cases hw
    rw [hfull] at hstate
    cases hstate
  rcases beginReconstruction_windows s with hs | ⟨v, hv, hs | hs⟩ <;> rw [hs]
  · exact hw
  · rwa [findWindow_freeWindow_of_ne _ (hne hv)]
  · rwa [findWindow_updateWindow_of_ne _ (by simp) (hne hv)]

/-- A look changes nothing of a slot it leaves occupied but its state (R87). -/
theorem findWindow_beginReconstruction {s : State} {n : Fin 4} {x : Window}
    (hx : findWindow (beginReconstruction s).windows n = some x) :
    ∃ y, findWindow s.windows n = some y ∧ x = { y with state := x.state } := by
  rcases beginReconstruction_windows s with hs | ⟨v, -, hs | hs⟩ <;> rw [hs] at hx
  · exact ⟨x, hx, rfl⟩
  · by_cases hn : n = v.slot
    · rw [hn, findWindow_freeWindow_same] at hx
      cases hx
    · rw [findWindow_freeWindow_of_ne _ hn] at hx
      exact ⟨x, hx, rfl⟩
  · rw [findWindow_updateWindow _ _ _ (by simp)] at hx
    split at hx
    · obtain ⟨y, hy, rfl⟩ := Option.map_eq_some_iff.mp hx
      exact ⟨y, hy, rfl⟩
    · exact ⟨x, hx, rfl⟩

/-- What the event path finds of an entered crossing: position, slots and engines as they stand. -/
theorem sampledCrossing_of_entered {s : State} {p : Position} {f : Forming} (he : EnteredAt s p f)
    (pairs : Oct CodePair) :
    (sampledCrossing pairs s).timer = s.timer ∧ (sampledCrossing pairs s).capture = s.capture ∧
      (sampledCrossing pairs s).windows = s.windows := by
  have hentered := enterCrossing_of_enteredAt he
  refine ⟨?_, ?_, ?_⟩ <;> simp [sampledCrossing, deliveredCrossing, hentered]

/-- While a capture is in progress, a crossing start copies its column after the look of the Reconstruction Engine (R83). -/
theorem processEvents_of_capturing {s : State} (h : s.capture.isSome = true) :
    processEvents s = advanceReconstruction (copyColumn (beginReconstruction s)) := by
  have hbegin : beginCapture s = s := by
    cases hc : captureCandidate s with
    | none => exact beginCapture_of_none hc
    | some x => simp [captureCandidate_capture (s := s) (by simp [hc])] at h
  rw [processEvents, hbegin]

/-- A crossing start in a capture copies the column of its position, read from the pipeline it leaves (R83). -/
theorem startCrossing_of_capturing {s : State} {p : Position} {f : Forming} (he : EnteredAt s p f) {c : Capture}
    {w : Window} (hdistinct : (slotNumbers s.windows).Nodup) (hc : s.capture = some c)
    (hw : findWindow s.windows c.slot = some w) (hstate : w.state = .filling) (pairs : Oct CodePair) :
    (startCrossing pairs s).capture
        = (if w.isLast c.position then none else some { c with position := c.position + 1 }) ∧
      (startCrossing pairs s).windows
        = updateWindow (beginReconstruction (sampledCrossing pairs s)).windows c.slot fun x =>
            x.withColumn c.position (windowColumn (startCrossing pairs s) w c.position) (w.isLast c.position) := by
  obtain ⟨htimer, hcapture, hwindows⟩ := sampledCrossing_of_entered he pairs
  have hlook := findWindow_beginReconstruction_of_filling (s := sampledCrossing pairs s) (by rwa [hwindows])
    (by rwa [hwindows]) hstate
  have hcopy := copyColumn_of_capturing (s := beginReconstruction (sampledCrossing pairs s)) (c := c)
    (by simpa [hcapture] using hc) hlook
  have hevents := processEvents_of_capturing (s := sampledCrossing pairs s) (by simp [hcapture, hc])
  have hcolumn : windowColumn (startCrossing pairs s) w c.position
      = windowColumn (beginReconstruction (sampledCrossing pairs s)) w c.position :=
    windowColumn_congr (by simp [startCrossing_eq])
      (by rw [(startCrossing_frame pairs s).1, enterCrossing_of_enteredAt he]; simp [htimer]) _ _
  rw [hcolumn]
  constructor <;> simp [startCrossing_eq, hevents, hcopy]

/-- Settles O34: the last column as a row, and the copy of a crossing start behind the look of the Reconstruction Engine. -/
theorem captureCopies : Obligations.CaptureCopies := by
  refine ⟨fun s hnone => ?_, fun s hwhole hnext => ?_, fun s p f slot k w he hacted hc hw hlength => ?_,
    fun pairs s p f slot k w he hdistinct hc hw hstate hk => ?_⟩
  · rw [exec_captureComplete, hnone]
    rfl
  · obtain ⟨p, f, hentered, -⟩ := enterCrossing_entered hwhole
    refine ⟨?_, p, f, hentered⟩
    rw [exec_captureComplete_of_next hnext,
      exec_captureComplete_of_next (by rwa [enterCrossing_enterCrossing hwhole]), enterCrossing_enterCrossing hwhole]
  · intro column
    have hcolumn : windowColumn s w k = column := windowColumn_eq s w k
    have hlast : w.isLast k = true := (Window.isLast_iff (by omega)).mpr hlength.symm
    rw [exec_captureComplete_of_entered he hacted hc hw hlast, hcolumn]
    rfl
  · obtain ⟨hcapture, hwindows⟩ := startCrossing_of_capturing he hdistinct hc hw hstate pairs
    obtain ⟨-, -, hsampled⟩ := sampledCrossing_of_entered he pairs
    refine ⟨_, exec_crossingStart pairs s, ?_⟩
    intro column
    have hcolumn : windowColumn (startCrossing pairs s) w k = column := windowColumn_eq _ w k
    have hlast := Window.isLast_iff hk
    simp only [hcolumn, hlast] at hcapture hwindows
    refine ⟨hcapture, ?_, fun n x hn hx => ?_⟩
    · have hlook := findWindow_beginReconstruction_of_filling (s := sampledCrossing pairs s) (by rwa [hsampled])
        (by rwa [hsampled]) hstate
      rw [hwindows, findWindow_updateWindow _ _ _ (by simp), if_pos rfl, hlook]
      simp only [Option.map_some, Window.withColumn, hlast, hstate]
      rfl
    · rw [hwindows, findWindow_updateWindow_of_ne _ (by simp) hn] at hx
      simpa only [hsampled] using findWindow_beginReconstruction hx

end Sys2Proof.Machine
end

section
/-! The look of the Reconstruction Engine as a row: the begin it leads to, or none (R91 to R94, R119, R120). -/

namespace Sys2Proof.Machine

theorem exec_reconstructionBegin (s : State) :
    exec .reconstructionBegin s
      = .next (if looksForEvent (enterCrossing s) then beginReconstruction (enterCrossing s) else s) := rfl

theorem exec_reconstructionBegin_of_looks {s : State} (h : looksForEvent (enterCrossing s) = true) :
    exec .reconstructionBegin s = .next (beginReconstruction (enterCrossing s)) := by
  rw [exec_reconstructionBegin, if_pos h]

theorem looksForEvent_of_entered {s : State} {p : Position} {f : Forming} (he : EnteredAt s p f) :
    looksForEvent s = true ↔ s.recon = none ∧ f.reconstructionLooked = false := by
  obtain ⟨-, hf, -, -⟩ := he
  rw [looksForEvent_iff, reconstructionLooked, hf]

/-- The timer once the engine has looked in a crossing of which `f` has been taken (R91). -/
def Timer.looked (t : Timer) (f : Forming) : Timer := { t with forming := some { f with reconstructionLooked := true } }

theorem markLook_of_forming {s t : State} {f : Forming} (hf : s.timer.forming = some f) (htimer : t.timer = s.timer) :
    markLook t = { t with timer := s.timer.looked f } := by
  unfold markLook Timer.looked
  rw [htimer, hf]
  rfl

theorem reconstructionCandidate_eq_none {s : State} (h : 64 ≤ s.buffer.ring.length ∨ earliestFull s.windows = none) :
    reconstructionCandidate s = none := by
  unfold reconstructionCandidate
  split
  · next hroom => exact h.resolve_left (not_le.mpr hroom)
  · rfl

section Entered

variable {s : State} {p : Position} {f : Forming} (he : EnteredAt s p f) (hlooked : f.reconstructionLooked = false)
  (hrecon : s.recon = none)
include he hlooked hrecon

/-- A look that finds no event is marked as made, and nothing else (R91; log 29). -/
theorem exec_reconstructionBegin_of_none (hnone : reconstructionCandidate s = none) :
    exec .reconstructionBegin s = .next { s with timer := s.timer.looked f } := by
  have hlooks := (looksForEvent_of_entered he).mpr ⟨hrecon, hlooked⟩
  have hentered := enterCrossing_of_enteredAt he
  obtain ⟨-, hf, -, -⟩ := he
  rw [exec_reconstructionBegin_of_looks (by rwa [hentered]), hentered, beginReconstruction_of_looks hlooks, hnone,
    markLook_of_forming hf rfl]

/-- A look that finds an event begins it and is marked as made (R91). -/
theorem exec_reconstructionBegin_of_found {w : Window} (hroom : s.buffer.ring.length < 64)
    (hw : earliestFull s.windows = some w) :
    exec .reconstructionBegin s = .next { beginEvent w s with timer := s.timer.looked f } := by
  have hlooks := (looksForEvent_of_entered he).mpr ⟨hrecon, hlooked⟩
  have hentered := enterCrossing_of_enteredAt he
  have hfound : reconstructionCandidate s = some w := (if_pos hroom).trans hw
  obtain ⟨-, hf, -, -⟩ := he
  rw [exec_reconstructionBegin_of_looks (by rwa [hentered]), hentered, beginReconstruction_of_looks hlooks, hfound,
    markLook_of_forming hf (by simp)]

end Entered

/-! ### The begin on a slot (R93, R94) -/

theorem beginEvent_of_late {w : Window} (h : w.late = true) (s : State) : beginEvent w s = endAtOnce w false s := by
  unfold beginEvent
  rw [if_pos h]

theorem beginEvent_of_truncated {s : State} {w : Window} (h : w.late = false)
    (hroom : wordsFree s.buffer < reservation w.length) : beginEvent w s = report .truncated (endAtOnce w true s) := by
  unfold beginEvent
  rw [if_neg (by simp [h]), if_neg (not_le.mpr hroom)]

theorem beginEvent_of_room {s : State} {w : Window} (h : w.late = false)
    (hroom : reservation w.length ≤ wordsFree s.buffer) : beginEvent w s = beginBuilding w s := by
  unfold beginEvent
  rw [if_neg (by simp [h]), if_pos hroom]

/-- Settles O35: the look as a row, and the three ends of the begin it leads to. -/
theorem reconstructionBeginEffect : Obligations.ReconstructionBeginEffect := by
  refine ⟨fun s hlooks => ?_, fun s hwhole hlooks => ?_,
    fun s p f he => ⟨looksForEvent_of_entered he, fun hlooked hrecon hnone => ?_⟩,
    fun s p f w he hlooked hrecon hring hw => ?_⟩
  · rw [exec_reconstructionBegin, hlooks]
    rfl
  · obtain ⟨p, f, hentered, -⟩ := enterCrossing_entered hwhole
    refine ⟨?_, p, f, hentered⟩
    rw [exec_reconstructionBegin_of_looks hlooks,
      exec_reconstructionBegin_of_looks (by rwa [enterCrossing_enterCrossing hwhole]), enterCrossing_enterCrossing hwhole]
  · exact exec_reconstructionBegin_of_none he hlooked hrecon (reconstructionCandidate_eq_none hnone)
  · intro timer set length r descriptor
    have hexec := exec_reconstructionBegin_of_found he hlooked hrecon hring hw
    refine ⟨fun hlate => ?_, fun hlate hroom => ?_, fun hlate hroom => ?_⟩
    · rw [hexec, beginEvent_of_late hlate]
      rfl
    · rw [hexec, beginEvent_of_truncated hlate hroom]
      rfl
    · rw [hexec, beginEvent_of_room hlate hroom]
      rfl

end Sys2Proof.Machine
end

section
/-! Words placed in the Payload Store are read back, and an event fits its reservation (R94, R119, R140). -/

namespace Sys2Proof.Machine

/-- Placing words leaves every address alone that none of them goes to (R119). -/
theorem read_placeWords_of_ne {a : Nat} (m : List (Nat × Word)) (i : Nat) (ws : List Word)
    (h : ∀ k, k < ws.length → (i + k) % Config.payloadWords ≠ a) :
    Memory.read (fun _ => (0 : Word)) (placeWords m i ws) a = Memory.read (fun _ => (0 : Word)) m a := by
  induction ws generalizing m i with
  | nil => rfl
  | cons w ws ih =>
    have hfirst : i % Config.payloadWords ≠ a := h 0 (Nat.zero_lt_succ _)
    have hrest : ∀ k, k < ws.length → (i + 1 + k) % Config.payloadWords ≠ a := fun k hk => by
      simpa only [Nat.add_assoc, Nat.add_comm 1 k] using h (k + 1) (Nat.succ_lt_succ hk)
    rw [placeWords, ih _ _ hrest, Memory.read_write_of_ne _ _ _ (Ne.symm hfirst)]

/-- At most 8192 words go to addresses of their own, so each of them is read back where it was placed (R119, R140). -/
theorem read_placeWords {m : List (Nat × Word)} (hm : Memory.wf (fun _ => (0 : Word)) m = true) (i : Nat)
    {ws : List Word} (hlength : ws.length ≤ Config.payloadWords) {k : Nat} (hk : k < ws.length) :
    Memory.read (fun _ => (0 : Word)) (placeWords m i ws) ((i + k) % Config.payloadWords) = ws[k] := by
  induction ws generalizing m i k with
  | nil => cases hk
  | cons w ws ih =>
    rw [List.length_cons] at hlength
    rw [placeWords]
    cases k with
    | zero =>
      have hother : ∀ j, j < ws.length → (i + 1 + j) % Config.payloadWords ≠ i % Config.payloadWords := fun j hj => by
        unfold Config.payloadWords at *
        omega
      show Memory.read _ _ (i % Config.payloadWords) = w
      rw [read_placeWords_of_ne _ _ _ hother, Memory.read_write _ _ hm, if_pos rfl]
    | succ k =>
      have hnext : i + (k + 1) = i + 1 + k := by omega
      rw [hnext]
      exact ih (Memory.wf_write _ _ hm) (i + 1) (Nat.le_of_succ_le hlength) (Nat.lt_of_succ_lt_succ hk)

/-- A header and the words of eight channels never exceed the reservation (R94). -/
theorem header_add_channelWords_le (x : Snapshot) (w : Window) :
    headerLength w.testMatch + (channels.map fun ch => (channelWords x w ch).length).sum ≤ reservation w.length := by
  have hsum := List.sum_le_card_nsmul (channels.map fun ch => (channelWords x w ch).length) (3 + rawWordCount w.length)
    (List.forall_mem_map.mpr fun ch _ => channelWords_length_le x w ch)
  have hcount : (channels.map fun ch => (channelWords x w ch).length).length = 8 := by simp [channels]
  rw [hcount, smul_eq_mul] at hsum
  exact Nat.add_le_add (headerLength_le _) hsum

/-- Settles O40: what is read after words are placed, and the worst case of a reservation. -/
theorem payloadPlacement : Obligations.PayloadPlacement := by
  refine ⟨fun b i ws hb hlength => ⟨fun k hk => read_placeWords hb i hlength hk, fun j hj => ?_⟩,
    header_add_channelWords_le⟩
  exact read_placeWords_of_ne _ _ _ hj

end Sys2Proof.Machine
end

section
/-! The completion of an event as a row (R96, R121, R124). -/

namespace Sys2Proof.Machine

/-- The current event is the Building one with its slot and the newest descriptor with its payload (R90). -/
theorem currentEvent_of_building {s : State} {b : Building} {w : Window} {older : List Descriptor} {d : Descriptor}
    {q : PayloadReference} (hrecon : s.recon = some b) (hw : findWindow s.windows b.slot = some w)
    (hring : s.buffer.ring = older ++ [d]) (hq : d.payload = some q) : currentEvent s = some (b, w, d, q) := by
  simp [currentEvent, hrecon, hw, hring, hq]

theorem completionDue_iff (s : State) : completionDue s = true ↔ ∃ b, s.recon = some b ∧ b.phase = .due := by
  cases h : s.recon <;> simp [completionDue, h]

theorem reconstructionLooked_iff (s : State) :
    reconstructionLooked s = true ↔ ∃ f, s.timer.forming = some f ∧ f.reconstructionLooked = true := by
  cases h : s.timer.forming <;> simp [reconstructionLooked, h]

theorem reconstructionLooked_of_forming {s : State} {f : Forming} (h : s.timer.forming = some f) :
    reconstructionLooked s = f.reconstructionLooked := by
  simp [reconstructionLooked, h]

theorem mayCompleteNow_iff (s : State) :
    mayCompleteNow s = true ↔
      ∃ b, s.recon = some b ∧ (b.channel = 7 ∧ b.phase = .first) ∧ reconstructionLooked s = false := by
  cases h : s.recon <;> simp [mayCompleteNow, Building.mayComplete, h]

theorem exec_reconstructionComplete (s : State) :
    exec .reconstructionComplete s
      = .next (if completionDue s then completeEvent s
               else if mayCompleteNow s then completeEvent (openCrossing s) else s) := rfl

theorem exec_reconstructionComplete_of_not {s : State} (hdue : completionDue s = false)
    (hmay : mayCompleteNow s = false) : exec .reconstructionComplete s = .next s := by
  rw [exec_reconstructionComplete, hdue, hmay]
  rfl

theorem exec_reconstructionComplete_of_due {s : State} (hdue : completionDue s = true) :
    exec .reconstructionComplete s = .next (completeEvent s) := by
  rw [exec_reconstructionComplete, if_pos hdue]

theorem exec_reconstructionComplete_of_may {s : State} (hmay : mayCompleteNow s = true) :
    exec .reconstructionComplete s = .next (completeEvent (openCrossing s)) := by
  have hdue : ¬ completionDue s = true := by
    obtain ⟨b, hb, ⟨-, hfirst⟩, -⟩ := (mayCompleteNow_iff s).mp hmay
    rw [completionDue_iff]
    rintro ⟨x, hx, hphase⟩
    rw [hb] at hx
    cases hx
    rw [hfirst] at hphase
    cases hphase
  rw [exec_reconstructionComplete, if_neg hdue, if_pos hmay]

/-- A crossing is opened with the current event as it stands, unless a completion is due. -/
theorem openCrossing_recon {s : State} (h : completionDue s = false) : (openCrossing s).recon = s.recon := by
  have hdue : completionDue (makeDue s) = false := by simpa [completionDue] using h
  cases hf : isForming s with
  | true => rw [openCrossing_of_forming hf]
  | false => simp [openCrossing, settle, completeDue, hf, hdue]

/-- Settles O39: the three cases of the row, the last with the completion written out. -/
theorem reconstructionCompleteEffect : Obligations.ReconstructionCompleteEffect := by
  refine ⟨fun s hnot => ?_, fun s b hb hchannel hfirst hforming => ?_, fun s b w older d q hb hlast hw hring hq => ?_⟩
  · refine exec_reconstructionComplete_of_not (Bool.eq_false_iff.mpr fun hdue => ?_)
      (Bool.eq_false_iff.mpr fun hmay => ?_)
    · obtain ⟨b, hb, hphase⟩ := (completionDue_iff s).mp hdue
      exact (hnot b hb).1 hphase
    · obtain ⟨b, hb, ⟨hchannel, hfirst⟩, hlooked⟩ := (mayCompleteNow_iff s).mp hmay
      have hlooks := ((hnot b hb).2.resolve_left (not_not.mpr hchannel)).resolve_left (not_not.mpr hfirst)
      rw [(reconstructionLooked_iff s).mpr hlooks] at hlooked
      cases hlooked
  · have hlooked : reconstructionLooked s = false := by simp [reconstructionLooked, hforming]
    have hdue : completionDue s = false := by simp [completionDue, hb, hfirst]
    have hopened : reconstructionLooked (openCrossing s) = false := by
      rw [reconstructionLooked, openCrossing_timer_of_not_forming (by simp [isForming, hforming])]
      rfl
    rw [exec_reconstructionComplete_of_may ((mayCompleteNow_iff s).mpr ⟨b, hb, ⟨hchannel, hfirst⟩, hlooked⟩),
      exec_reconstructionComplete_of_may ((mayCompleteNow_iff _).mpr
        ⟨b, (openCrossing_recon hdue).trans hb, ⟨hchannel, hfirst⟩, hopened⟩),
      openCrossing_of_forming (openCrossing_isForming s)]
  · have hexec : exec .reconstructionComplete s = .next (completeEvent s) := by
      rcases hlast with hphase | ⟨hchannel, hfirst, f, hf, hlooked⟩
      · exact exec_reconstructionComplete_of_due ((completionDue_iff s).mpr ⟨b, hb, hphase⟩)
      · have hmay := (mayCompleteNow_iff s).mpr
          ⟨b, hb, ⟨hchannel, hfirst⟩, (reconstructionLooked_of_forming hf).trans hlooked⟩
        rw [exec_reconstructionComplete_of_may hmay, openCrossing_of_forming (by simp [isForming, hf])]
    rw [hexec, completeEvent, currentEvent_of_building hb hw hring hq]
    simp only [completeDescriptor, hring, List.dropLast_concat]
    rfl

end Sys2Proof.Machine
end

section
/-! One crossing of the current event at a crossing start (R95, R96). -/

namespace Sys2Proof.Machine

/-! ### The event path up to the current event -/

/-- A capture begin claims a Free slot, so an occupied one is found as it was (R80). -/
theorem findWindow_beginCapture_of_some {s : State} {n : Fin 4} {w : Window} (h : findWindow s.windows n = some w) :
    findWindow (beginCapture s).windows n = some w := by
  cases hc : captureCandidate s with
  | none => rwa [beginCapture_of_none hc]
  | some x => rw [(beginCapture_slots hc).1, findWindow_append_of_some h]

/-- A capture begin leads to no capture into a slot that is occupied (R80). -/
theorem beginCapture_capture_ne {s : State} {n : Fin 4} {w : Window} (h : findWindow s.windows n = some w)
    (hne : ∀ c ∈ s.capture, c.slot ≠ n) : ∀ c ∈ (beginCapture s).capture, c.slot ≠ n := by
  cases hc : captureCandidate s with
  | none => rwa [beginCapture_of_none hc]
  | some x =>
    obtain ⟨k, e, rest, slot⟩ := x
    have hfree := lowestFree_isNone (captureCandidate_some hc).2
    have hslot : slot ≠ n := by
      rintro rfl
      rw [hfree] at h
      cases h
    rw [(beginCapture_slots hc).2]
    split <;> simp [hslot]

/-- A column copy leaves every slot alone that is not being filled (R83). -/
theorem findWindow_copyColumn_of_ne {s : State} {n : Fin 4} (hne : ∀ c ∈ s.capture, c.slot ≠ n) :
    findWindow (copyColumn s).windows n = findWindow s.windows n := by
  unfold copyColumn
  split
  · rfl
  · next c hc =>
    split
    · rfl
    · exact findWindow_updateWindow_of_ne _ (by simp) (hne c hc).symm

theorem beginCapture_looked (s : State) : reconstructionLooked (beginCapture s) = reconstructionLooked s := by
  unfold beginCapture
  split
  · rfl
  · cases hf : s.timer.forming <;> simp [reconstructionLooked, markCapture, updateForming, apply_ite State.timer, hf]

/-- With a current event the Reconstruction Engine makes no look in the event path (R91). -/
theorem processEvents_of_building {s : State} {b : Building} (h : s.recon = some b) :
    processEvents s = advanceReconstruction (copyColumn (beginCapture s)) := by
  have hlooks : looksForEvent (beginCapture s) = false := by simp [looksForEvent, h]
  rw [processEvents, beginReconstruction_of_not_looks hlooks]

/-- The state a crossing start with a current event advances that event in: the column written, a capture begun, a column copied. -/
def crossingAtEvent (pairs : Oct CodePair) (s : State) : State := copyColumn (beginCapture (sampledCrossing pairs s))

theorem startCrossing_of_building {s : State} {p : Position} {f : Forming} (he : EnteredAt s p f) {b : Building}
    (hrecon : s.recon = some b) (pairs : Oct CodePair) :
    (startCrossing pairs s).recon = (advanceReconstruction (crossingAtEvent pairs s)).recon ∧
      (startCrossing pairs s).buffer = (advanceReconstruction (crossingAtEvent pairs s)).buffer := by
  have hentered := enterCrossing_of_enteredAt he
  have hevents := processEvents_of_building (s := sampledCrossing pairs s) (b := b)
    (by simpa [sampledCrossing, deliveredCrossing, hentered] using hrecon)
  constructor <;> simp [startCrossing_eq, hevents, crossingAtEvent]

/-- Up to the current event the event path leaves that event, the Event Buffer and the look of the engine as they stand. -/
theorem crossingAtEvent_frame {s : State} {p : Position} {f : Forming} (he : EnteredAt s p f) (pairs : Oct CodePair) :
    (crossingAtEvent pairs s).recon = s.recon ∧ (crossingAtEvent pairs s).buffer = s.buffer ∧
      reconstructionLooked (crossingAtEvent pairs s) = f.reconstructionLooked := by
  have hentered := enterCrossing_of_enteredAt he
  have htimer := (sampledCrossing_of_entered he pairs).1
  have hcopied : reconstructionLooked (crossingAtEvent pairs s)
      = reconstructionLooked (beginCapture (sampledCrossing pairs s)) := by
    simp [crossingAtEvent, reconstructionLooked]
  obtain ⟨-, hf, -, -⟩ := he
  rw [hcopied, beginCapture_looked, reconstructionLooked_of_forming (by rwa [htimer])]
  refine ⟨?_, ?_, rfl⟩ <;> simp [crossingAtEvent, sampledCrossing, deliveredCrossing, hentered]

/-- A slot that no capture fills is found by the current event as it stands. -/
theorem findWindow_crossingAtEvent {s : State} {p : Position} {f : Forming} (he : EnteredAt s p f) {n : Fin 4} {w : Window}
    (hw : findWindow s.windows n = some w) (hne : ∀ c ∈ s.capture, c.slot ≠ n) (pairs : Oct CodePair) :
    findWindow (crossingAtEvent pairs s).windows n = some w := by
  obtain ⟨-, hcapture, hwindows⟩ := sampledCrossing_of_entered he pairs
  have hsampled : findWindow (sampledCrossing pairs s).windows n = some w := by rwa [hwindows]
  rw [crossingAtEvent, findWindow_copyColumn_of_ne (beginCapture_capture_ne hsampled (by rwa [hcapture])),
    findWindow_beginCapture_of_some hsampled]

/-! ### One crossing of the current event, by its phase (R95, R96) -/

section Advance

variable {s : State} {b : Building} {w : Window} {d : Descriptor} {q : PayloadReference}
  (he : currentEvent s = some (b, w, d, q)) (hlooked : reconstructionLooked s = false)
include he hlooked

theorem advanceReconstruction_of_begun (hphase : b.phase = .begun) :
    advanceReconstruction s = s.setRecon (some { b with phase := .first }) := by
  simp [advanceReconstruction, he, hlooked, hphase]

theorem advanceReconstruction_of_first_last (hphase : b.phase = .first) (hchannel : b.channel = 7) :
    advanceReconstruction s = s.setRecon (some { b with phase := .due }) := by
  simp [advanceReconstruction, he, hlooked, hphase, hchannel]

theorem advanceReconstruction_of_first (hphase : b.phase = .first) (hchannel : b.channel ≠ 7) :
    advanceReconstruction s = placeChannel b q.start w s := by
  simp [advanceReconstruction, he, hlooked, hphase, hchannel]

theorem advanceReconstruction_of_placed (hphase : b.phase = .placed) :
    advanceReconstruction s = s.setRecon (some { b with channel := b.channel + 1, phase := .first }) := by
  simp [advanceReconstruction, he, hlooked, hphase]

theorem advanceReconstruction_of_due (hphase : b.phase = .due) : advanceReconstruction s = s := by
  simp [advanceReconstruction, he, hlooked, hphase]

end Advance

/-- The count of records rises where the placed channel has words (R95). -/
theorem placeChannel_recon (b : Building) (start : Nat) (w : Window) (s : State) :
    (placeChannel b start w s).recon = some
      { b with
        phase := .placed
        recordPosition := b.recordPosition + (channelWords b.snapshot w b.channel).length
        records := b.records + if channelWords b.snapshot w b.channel = [] then 0 else 1 } := by
  simp only [placeChannel, State.setRecon_recon, List.isEmpty_iff]

/-- Settles O36: what one crossing makes of the current event, phase by phase, once the event path has come to it. -/
theorem channelPlaced : Obligations.ChannelPlaced := by
  intro pairs s p f b w older d q he hrecon hw hring hq hne
  refine ⟨_, exec_crossingStart pairs s, ?_⟩
  obtain ⟨hrecon', hbuffer, hlooked⟩ := crossingAtEvent_frame he pairs
  obtain ⟨hr, hb⟩ := startCrossing_of_building he hrecon pairs
  have hevent := currentEvent_of_building (hrecon'.trans hrecon) (findWindow_crossingAtEvent he hw hne pairs)
    (hbuffer.symm ▸ hring) hq
  rw [hr, hb]
  generalize crossingAtEvent pairs s = u at *
  refine ⟨fun hf => ?_, fun hf => ⟨fun hphase => ?_, fun hphase => ?_, fun hphase hchannel => ?_,
    fun hphase hchannel => ?_, fun hphase => ?_⟩⟩
  · rw [advanceReconstruction_of_looked (hlooked.trans hf)]
    exact ⟨hrecon'.trans hrecon, hbuffer⟩
  · rw [advanceReconstruction_of_begun hevent (hlooked.trans hf) hphase]
    exact ⟨rfl, hbuffer⟩
  · rw [advanceReconstruction_of_placed hevent (hlooked.trans hf) hphase]
    exact ⟨rfl, hbuffer⟩
  · rw [advanceReconstruction_of_first_last hevent (hlooked.trans hf) hphase hchannel]
    exact ⟨rfl, hbuffer⟩
  · rw [advanceReconstruction_of_first hevent (hlooked.trans hf) hphase hchannel, ← hbuffer]
    exact ⟨placeChannel_recon b q.start w u, rfl⟩
  · rw [advanceReconstruction_of_due hevent (hlooked.trans hf) hphase]
    exact ⟨hrecon'.trans hrecon, hbuffer⟩

end Sys2Proof.Machine
end

section
/-! The stages of the reconstruction arithmetic, from the records of a window to the outcome of a channel (R97 to R106). -/

namespace Sys2Proof.Machine

/-! ### Records of a window -/

theorem Cell.usable_iff (c : Cell) : c.usable = true ↔ c.state = .good ∨ c.state = .saturated := by
  cases h : c.state <;> simp [Cell.usable, h]

theorem cellAt_eq (w : Window) (ch : Channel) (i : Nat) :
    cellAt w ch i = match w.columns[i]? with
      | some c => c.cells.get ch
      | none => ⟨.empty, 0, .high, none⟩ := by
  unfold cellAt sampleAt
  cases w.columns[i]? <;> rfl

theorem unifiedAt_eq (k : ChannelCalibration) (w : Window) (ch : Channel) (i : Nat) :
    unifiedAt k w ch i = match (cellAt w ch i).gain with
      | .high => 4 * ((cellAt w ch i).code.toNat : Int) - k.hgPedestal
      | .low => ((4 * ((cellAt w ch i).code.toNat : Int) - k.lgPedestal) * k.gainRatio + 128) / 256 := by
  unfold unifiedAt
  cases h : (cellAt w ch i).gain with
  | high => exact unify_of_high h
  | low => exact unify_of_low h

/-! ### The taps (R97) -/

theorem mem_tapPositions (w : Window) (i : Nat) : i ∈ tapPositions w ↔ ∃ j, j < 5 ∧ i = w.tapStart + j := by
  simp only [tapPositions, List.mem_cons, List.not_mem_nil, or_false]
  constructor
  · intro h
    exact ⟨i - w.tapStart, by omega, by omega⟩
  · rintro ⟨j, hj, rfl⟩
    omega

theorem tapsUsable_iff (w : Window) (ch : Channel) :
    tapsUsable w ch = true ↔ ∀ i, i < 5 → (cellAt w ch (w.tapStart + i)).usable = true := by
  simp only [tapsUsable, List.all_eq_true, mem_tapPositions]
  exact ⟨fun h i hi => h _ ⟨i, hi, rfl⟩, fun h x ⟨i, hi, hx⟩ => hx ▸ h i hi⟩

theorem any_tapPositions_iff (w : Window) (f : Nat → Bool) :
    (tapPositions w).any f = true ↔ ∃ i, i < 5 ∧ f (w.tapStart + i) = true := by
  simp only [List.any_eq_true, mem_tapPositions]
  exact ⟨fun ⟨x, ⟨i, hi, hx⟩, h⟩ => ⟨i, hi, hx ▸ h⟩, fun ⟨i, hi, h⟩ => ⟨_, ⟨i, hi, rfl⟩, h⟩⟩

/-! ### Clamps, pile-up, classes (R100 to R104) -/

theorem clampTo_eq {low high : Int} (h : low ≤ high) (v : Int) : clampTo low high v = max low (min v high) := by
  unfold clampTo
  split
  · omega
  · split <;> omega

theorem clampAmplitude_eq (a : Int) : clampAmplitude a = max (-524288) (min a 524287) := clampTo_eq (by decide) a

theorem clampEnergy_eq (e : Int) : clampEnergy e = max (-32768) (min e 32767) := clampTo_eq (by decide) e

theorem pulseTime_eq (floor : Int) (k : ChannelCalibration) (w : Window) (ch : Channel) (a : Int) :
    pulseTime floor k w ch a
      = if floor ≠ 0 ∧ floor ≤ a then
          some (max (-128) (min
            ((64 * clampAmplitude (filterRound (tapSum k w ch k.b0 k.b1 k.b2 k.b3 k.b4))).tdiv a) 127))
        else none := by
  simp only [pulseTime, clampTo_eq (show (-128 : Int) ≤ 127 by decide)]

theorem pileUpFound_iff (x : Snapshot) (k : ChannelCalibration) (w : Window) (ch : Channel) (a : Int) :
    pileUpFound x k w ch a = true ↔ 0 < a ∧ ∃ i, i < w.length ∧ (i < w.tapStart ∨ w.tapStart + 4 < i) ∧
      (cellAt w ch i).usable = true ∧ x.pileUpFloor < unifiedAt k w ch i ∧
      x.pileUpFraction * a < unifiedAt k w ch i * 256 := by
  simp only [pileUpFound, showsPileUp, Bool.and_eq_true, Bool.or_eq_true, decide_eq_true_eq, List.any_eq_true,
    List.mem_range, and_assoc]

theorem classify_of_overflow {saturatedTap : Bool} {a e : Int} (k : ChannelCalibration)
    (h : saturatedTap = true ∨ 524287 < a ∨ 32767 < e) : classify saturatedTap a e k = .overflow := if_pos h

/-- Short of class Overflow the clamp of the energy shows only where the class is Negative at once, so the clamped energy decides
the rows behind it as the energy does (R101, R104). -/
theorem classify_of_not_overflow {saturatedTap : Bool} {a e : Int} (k : ChannelCalibration)
    (h : ¬ (saturatedTap = true ∨ 524287 < a ∨ 32767 < e)) :
    classify saturatedTap a e k
      = if a < -524288 ∨ e < -32768 ∨ clampEnergy e < -k.negativeThreshold then .negative
        else if clampEnergy e ≤ k.quietThreshold then .quiet else .pulse := by
  rw [classify, if_neg h]
  by_cases hlow : e < -32768
  · rw [if_pos (.inr (.inl hlow)), if_pos (.inr (.inl hlow))]
  · have hclamp : clampEnergy e = e := by
      rw [clampEnergy_eq]
      omega
    rw [hclamp]

/-! ### The outcome of a channel (R105, R106) -/

theorem reconstructChannel_of_unusable {w : Window} {ch : Channel} (h : ¬ tapsUsable w ch = true) (x : Snapshot) :
    let r := reconstructChannel x w ch
    r.cls = .fault ∧ r.amplitude = 0 ∧ r.energy = 0 ∧ r.time = none ∧ r.pileUp = false := by
  simp [reconstructChannel, h]

theorem reconstructChannel_of_usable {w : Window} {ch : Channel} (h : tapsUsable w ch = true) {x : Snapshot}
    {k : ChannelCalibration} (hk : x.channel.get ch = k) :
    let a := clampAmplitude (rawAmplitude k w ch)
    let r := reconstructChannel x w ch
    r.amplitude = a ∧ r.energy = clampEnergy (rawEnergy k a) ∧ r.time = pulseTime x.timeFloor k w ch a ∧
      r.pileUp = pileUpFound x k w ch a ∧
      r.cls = classify ((tapPositions w).any fun i => (cellAt w ch i).state == .saturated) (rawAmplitude k w ch)
        (rawEnergy k a) k := by
  simp [reconstructChannel, h, hk]

/-- The qualifiers are formed whether or not the taps are usable (R106). -/
theorem reconstructChannel_qualifiers (x : Snapshot) (w : Window) (ch : Channel) :
    let r := reconstructChannel x w ch
    r.lowGain = ((tapPositions w).any fun i => (cellAt w ch i).gain == .low) ∧
      r.test = (w.testMatch.isSome && decide ((cellAt w ch w.pre).source = some .test)) ∧
      r.quietSource = decide ((cellAt w ch w.pre).source = some .quiet) := by
  unfold reconstructChannel
  dsimp only
  split <;> exact ⟨rfl, rfl, rfl⟩

/-- Settles O37: stage by stage, the records the statement reads being those of the window. -/
theorem pulseArithmetic : Obligations.PulseArithmetic := by
  intro x w ch k r cell usable u filtered formed a energy e b complete
  have hcell : cellAt w ch = cell := funext (cellAt_eq w ch)
  have husable : ∀ i, (cellAt w ch i).usable = true ↔ usable i := fun i => by rw [Cell.usable_iff, hcell]
  have hu : unifiedAt k w ch = u := funext fun i => by
    have hunified := unifiedAt_eq k w ch i
    rwa [hcell] at hunified
  have hfiltered : ∀ f0 f1 f2 f3 f4, filterRound (tapSum k w ch f0 f1 f2 f3 f4) = filtered f0 f1 f2 f3 f4 :=
    fun f0 f1 f2 f3 f4 => by rw [tapSum, hu, filterRound]
  have hformed : rawAmplitude k w ch = formed := hfiltered ..
  have ha : clampAmplitude formed = a := clampAmplitude_eq formed
  have he : clampEnergy (rawEnergy k a) = e := clampEnergy_eq energy
  have hb : clampAmplitude (filterRound (tapSum k w ch k.b0 k.b1 k.b2 k.b3 k.b4)) = b := by
    rw [hfiltered, clampAmplitude_eq]
  have hcomplete : tapsUsable w ch = true ↔ complete := by simp only [tapsUsable_iff, husable, complete]
  obtain ⟨hlow, htest, hquiet⟩ := reconstructChannel_qualifiers x w ch
  refine ⟨fun hn => reconstructChannel_of_unusable (hcomplete.not.mpr hn) x, fun h => ?_, ?_, ?_, ?_⟩
  · obtain ⟨hamplitude, henergy, htime, hpile, hcls⟩ := reconstructChannel_of_usable (hcomplete.mpr h) (k := k) rfl
    rw [hformed, ha] at hamplitude henergy htime hpile hcls
    have hsaturated : ((tapPositions w).any fun i => (cellAt w ch i).state == .saturated) = true ↔
        ∃ i, i < 5 ∧ (cell (w.tapStart + i)).state = .saturated := by
      simp only [any_tapPositions_iff, beq_iff_eq, hcell]
    refine ⟨hamplitude, henergy.trans he, ?_, ?_, fun hover => ?_, fun hover => ?_⟩
    · rw [htime, pulseTime_eq, hb]
    · rw [hpile, pileUpFound_iff]
      simp only [husable, hu]
      rfl
    · rw [hcls]
      exact classify_of_overflow k (by rwa [hsaturated])
    · rw [hcls, classify_of_not_overflow k (by rwa [hsaturated])]
      simp only [he]
      rfl
  · rw [hlow, any_tapPositions_iff, hcell]
    simp only [beq_iff_eq]
  · rw [htest, Bool.and_eq_true, decide_eq_true_iff, Option.isSome_iff_ne_none, hcell]
  · rw [hquiet, decide_eq_true_iff, hcell]

end Sys2Proof.Machine
end

section
/-! The words of a fragment: channel records, raw words, header words (R107 to R110, R125 to R127, R147). -/

namespace Sys2Proof.Machine

/-! ### Which words a channel places (R107, R108) -/

theorem keepsRecord_iff (x : Snapshot) (w : Window) (r : ChannelResult) :
    keepsRecord x w r = true ↔ r.cls ≠ .quiet ∨ x.keepAll = true ∨ (w.rawForced || x.rawAlways) = true := by
  simp only [keepsRecord, Bool.or_eq_true, decide_eq_true_eq, or_assoc]

section Words

variable {x : Snapshot} {w : Window} {ch : Channel}

theorem channelWords_of_absent (h : w.present.get ch = false) : channelWords x w ch = [] := by
  simp [channelWords, h]

theorem channelWords_of_suppressed (h : keepsRecord x w (reconstructChannel x w ch) = false) :
    channelWords x w ch = [] := by
  simp [channelWords, h]

theorem channelWords_of_kept (hpresent : w.present.get ch = true)
    (h : keepsRecord x w (reconstructChannel x w ch) = true) :
    channelWords x w ch = recordWords x w ch (reconstructChannel x w ch) := by
  simp [channelWords, hpresent, h]

end Words

/-! ### The fields of a record (R109, R110, R147) -/

/-- A position beyond the copied columns reads as an Empty record (R110). -/
theorem rawSample_sampleAt (w : Window) (ch : Channel) (i : Nat) :
    rawSample (sampleAt w ch i) = match w.columns[i]? with
      | none => 6#16
      | some c =>
        (c.cells.get ch).code ++ (BitVec.ofBool (decide ((c.cells.get ch).gain = .low)) ++
          (rawStateCode (c.cells.get ch).state ++ BitVec.ofBool c.injection)) := by
  unfold sampleAt
  cases w.columns[i]? with
  | none =>
    show rawSample (Cell.empty, false) = 6#16
    decide
  | some c =>
    simp only [rawSample, Gain.bit_eq]
    rfl

theorem attachesRaw_eq (x : Snapshot) (w : Window) (r : ChannelResult) :
    attachesRaw x w r
      = (decide (r.cls = .fault) || decide (r.cls = .overflow) || r.pileUp || (w.rawForced || x.rawAlways)) :=
  Bool.or_assoc ..

/-- Settles O38: the words of a channel by its three cases, and the header word by word. -/
theorem fragmentWords : Obligations.FragmentWords := by
  refine ⟨fun x w ch => ?_, fun d presence records attention => ?_⟩
  · intro r forced raw length sample code
    refine ⟨channelWords_of_absent, fun _ hquiet hall hforced => ?_, fun hpresent hkept => ?_⟩
    · refine channelWords_of_suppressed (Bool.eq_false_iff.mpr fun hkept => ?_)
      rcases (keepsRecord_iff x w r).mp hkept with h | h | h
      · exact h hquiet
      · simp [hall] at h
      · exact absurd h (by simpa [forced] using hforced)
    · have hraw : attachesRaw x w r = raw := attachesRaw_eq x w r
      have hcode : r.cls.code = code := rfl
      have hsample : ∀ i, rawSample (sampleAt w ch i) = sample i := rawSample_sampleAt w ch
      have hword : ∀ i, rawWord w ch i
          = sample (2 * i) ++ if 2 * i + 1 < length then sample (2 * i + 1) else 0#16 := fun i => by
        rw [rawWord, hsample, hsample]
        rfl
      rw [channelWords_of_kept hpresent ((keepsRecord_iff x w r).mpr hkept), recordWords, hraw, recordWord1, hcode,
        funext hword]
      rfl
  · unfold headerWords header2
    cases d.testMatch <;> rfl

end Sys2Proof.Machine
end

section
/-! Fetch: Empty, NotReady, or the stream of the oldest descriptor, which is Sent (R129, R130, R139). -/

namespace Sys2Proof.Machine

/-! ### Readout requests that are executed (R136, R137) -/

/-- At an Idle readout port with nothing due, the answer is that of the state as it stands. -/
theorem readoutRequest_of_ready {s : State} (h : ReadoutReady s) (code : Nat) (execute : State → State × Response) :
    readoutRequest code execute s
      = (execute s).1.setReadout ((execute s).1.readout.respond (isForming (execute s).1) (execute s).2) := by
  obtain ⟨hidle, hdue⟩ := h
  rw [readoutRequest_of_idle hidle, settleRequest_of_nothingDue hdue]

/-! ### What Fetch finds (R130, R139) -/

section Fetch

variable {s : State} {d : Descriptor} {rest : List Descriptor}

theorem fetchOldest_of_empty (h : s.buffer.ring = []) : fetchOldest s = (s, .words [emptyWord]) := by
  simp [fetchOldest, h]

theorem fetchOldest_of_building (h : s.buffer.ring = d :: rest) (hd : d.state = .building) :
    fetchOldest s = (s, .words [notReadyWord d.epoch d.event]) := by
  simp [fetchOldest, h, hd]

/-- A finished oldest descriptor is Sent after a Fetch; the one that was Sent before stays as it is (R130). -/
theorem fetchOldest_of_finished (h : s.buffer.ring = d :: rest) (hd : d.state ≠ .building) :
    fetchOldest s
      = (s.setBuffer { s.buffer with ring := { d with state := .sent } :: rest }, .stream (streamOf s d)) := by
  cases hx : d.state with
  | building => exact absurd hx hd
  | ready => simp [fetchOldest, h, hx]
  | sent =>
    have hsame : s.setBuffer { s.buffer with ring := { d with state := .sent } :: rest } = s := by
      rw [← hx, ← h]
      rfl
    rw [hsame]
    simp [fetchOldest, h, hx]

end Fetch

/-! ### The stream (R124, R129, R139) -/

theorem headerWords_length (d : Descriptor) (presence : Oct Bool) (records : Nat) (attention : Bool) :
    (headerWords d presence records attention).length = headerLength d.testMatch := by
  unfold headerWords headerLength
  cases d.testMatch <;> rfl

theorem streamOf_of_payload {d : Descriptor} {q : PayloadReference} (h : d.payload = some q) (s : State) :
    streamOf s d = ⟨d.epoch, d.event, q.length, 0, .stored q.start, false, false⟩ := by
  simp [streamOf, h]

/-- Without payload the header is formed at execution: three words, four with a test match (R129). -/
theorem streamOf_of_no_payload {d : Descriptor} (h : d.payload = none) (s : State) :
    streamOf s d
      = ⟨d.epoch, d.event, headerLength d.testMatch, 0,
          .formed (headerWords d (Oct.all false) 0 (attention s)), false, false⟩ := by
  simp [streamOf, h, formedHeader, headerWords_length]

/-! ### The obligation -/

theorem exec_fetch (s : State) : exec .fetch s = .next (readoutRequest fetchCode fetchOldest s) := rfl

/-- Settles O44, by the oldest descriptor and its state; the stream by whether there is a payload. -/
theorem fetchAnswers : Obligations.FetchAnswers := by
  intro s hready
  rw [exec_fetch, readoutRequest_of_ready hready]
  refine ⟨fun hempty => ?_, fun d rest hring => ⟨fun hbuilding => ?_, fun hfinished => ?_⟩⟩
  · rw [fetchOldest_of_empty hempty]
    rfl
  · rw [fetchOldest_of_building hring hbuilding]
    rfl
  · rw [fetchOldest_of_finished hring hfinished]
    cases hpayload : d.payload with
    | some q =>
      rw [streamOf_of_payload hpayload]
      rfl
    | none =>
      rw [streamOf_of_no_payload hpayload]
      rfl

end Sys2Proof.Machine
end

section
/-! What the links carry is read back as the command it was written from (R145, R148, R151, R152). -/

namespace Sys2Proof

/-- The encoding law of every command, each row of the table by its own law. -/
theorem Laws.Encoding.of_instr (i : Instr) : Statement i :=
  match i with
  | .powerOnReset => powerOnReset
  | .crossingStart pairs => crossingStart pairs
  | .turnBoundary => turnBoundary
  | .noneCommand => noneCommand
  | .accept => accept
  | .turnMarker => turnMarker
  | .testFire => testFire
  | .resync => resync
  | .linkError frame => linkError frame
  | .autoKill ch => autoKill ch
  | .pedestalCandidate ch gain => pedestalCandidate ch gain
  | .injectionRecordAgeOut => injectionRecordAgeOut
  | .scanStep => scanStep
  | .captureBegin => captureBegin
  | .captureComplete => captureComplete
  | .reconstructionBegin => reconstructionBegin
  | .reconstructionComplete => reconstructionComplete
  | .drainComplete => drainComplete
  | .responseEnd link => responseEnd link
  | .fetch => fetch
  | .release epoch event => release epoch event
  | .status => status
  | .readoutUnassigned code => readoutUnassigned code
  | .writeItem item index value => writeItem item index value
  | .readItem item index wantsPending => readItem item index wantsPending
  | .take => take
  | .cancelTake => cancelTake
  | .readTakeState => readTakeState
  | .start => start
  | .stop => stop
  | .restart => restart
  | .revive channel => revive channel
  | .readFaults => readFaults
  | .clearCauses causes => clearCauses causes
  | .setEnables causes => setEnables causes
  | .clearCounts => clearCounts
  | .scanStart => scanStart
  | .scanStop => scanStop
  | .freeze => freeze
  | .unfreeze => unfreeze
  | .peekInput channel => peekInput channel
  | .readCell age channel => readCell age channel
  | .writeCell age channel cell => writeCell age channel cell
  | .readColumn age => readColumn age
  | .readWindowSlot slot => readWindowSlot slot
  | .readDescriptor index => readDescriptor index
  | .readPayload word => readPayload word
  | .readTracker channel => readTracker channel
  | .diagnosticAccept age => diagnosticAccept age
  | .controlUnassigned code => controlUnassigned code

/-- Settles O13, command by command, by the encoding laws. -/
theorem linkRequestsRoundTrip : Obligations.LinkRequestsRoundTrip := Laws.Encoding.of_instr

end Sys2Proof
end

section
/-! Release and Status at an Idle readout port (R122, R141, R142, R149). -/

namespace Sys2Proof.Machine

/-! ### Release (R141) -/

section Release

variable {s : State} {d : Descriptor} {rest : List Descriptor} {epoch : BitVec 4} {event : BitVec 24}

theorem releaseOldest_of_empty (h : s.buffer.ring = []) : releaseOldest epoch event s = (s, .words [emptyWord]) := by
  simp [releaseOldest, h]

theorem releaseOldest_of_not_sent (h : s.buffer.ring = d :: rest) (hd : d.state ≠ .sent) :
    releaseOldest epoch event s = (s, .words [readoutRefusedWord .notSent releaseCode]) := by
  simp [releaseOldest, h, hd]

theorem releaseOldest_of_mismatch (h : s.buffer.ring = d :: rest) (hd : d.state = .sent)
    (hne : d.epoch ≠ epoch ∨ d.event ≠ event) :
    releaseOldest epoch event s = (s, .words [readoutRefusedWord .mismatch releaseCode]) := by
  simp only [releaseOldest, h]
  rw [if_neg (not_not_intro hd), if_pos hne]

theorem releaseOldest_of_named (h : s.buffer.ring = d :: rest) (hd : d.state = .sent) (hepoch : d.epoch = epoch)
    (hevent : d.event = event) :
    releaseOldest epoch event s = (s.setBuffer (s.buffer.free d rest), .words [releasedWord epoch event]) := by
  simp [releaseOldest, h, hd, hepoch, hevent]

end Release

theorem exec_release (epoch : BitVec 4) (event : BitVec 24) (s : State) :
    exec (.release epoch event) s = .next (readoutRequest releaseCode (releaseOldest epoch event) s) := rfl

/-- Settles O45, by the rows of R141 in their order. -/
theorem releaseAnswers : Obligations.ReleaseAnswers := by
  intro epoch event s hready answered
  have hanswered : ∀ w, releaseOldest epoch event s = (s, .words [w]) → answered w := fun w h =>
    ⟨_, by rw [exec_release, readoutRequest_of_ready hready, h], rfl, rfl⟩
  refine ⟨fun hempty => hanswered _ (releaseOldest_of_empty hempty), fun d rest hring =>
    ⟨fun hstate => hanswered _ (releaseOldest_of_not_sent hring hstate),
      fun hsent hne => hanswered _ (releaseOldest_of_mismatch hring hsent hne), fun hsent hepoch hevent => ?_⟩⟩
  exact ⟨_, by rw [exec_release, readoutRequest_of_ready hready, releaseOldest_of_named hring hsent hepoch hevent],
    rfl, rfl⟩

/-! ### Status (R142, R149) -/

theorem exec_status (s : State) : exec .status s = .next (readoutRequest statusRequestCode statusView s) := rfl

/-- Settles O46: the readout view is formed from the state as it stands. -/
theorem statusAnswers : Obligations.StatusAnswers := by
  intro s hready
  exact ⟨_, by rw [exec_status, readoutRequest_of_ready hready], rfl, rfl⟩

end Sys2Proof.Machine
end

section
/-! The words both request links send at a crossing start, and the end of a response (R136, R138, R140, R143, R154, R169). -/

namespace Sys2Proof.Machine

/-! ### The end of a response as a row -/

/-- A response is over when its last word has been sent, unless it waits for a crossing start (R136). -/
theorem Port.endDue_iff (p : Port) :
    p.endDue = true ↔ p.waits = false ∧ ∃ r, p.response = some r ∧
      (r = .words [] ∨ ∃ st, r = .stream st ∧ st.ended = true) := by
  unfold Port.endDue
  cases p.response with
  | none => simp
  | some r => cases r <;> simp [Response.finished, and_comm]

theorem exec_responseEnd (l : RequestLink) (s : State) :
    exec (.responseEnd l) s = .next (if (portOf s l).endDue then endResponse l (openCrossing s) else s) := rfl

theorem exec_responseEnd_of_not_over {l : RequestLink} {s : State} (h : (portOf s l).endDue = false) :
    exec (.responseEnd l) s = .next s := by
  rw [exec_responseEnd, h]
  rfl

theorem exec_responseEnd_readout {s : State} (h : s.readout.endDue = true) :
    exec (.responseEnd .readout) s = .next ((openCrossing s).setReadout (s.readout.finish readoutBusyWord)) := by
  simp [exec_responseEnd, endResponse, portOf, h]

theorem exec_responseEnd_control {s : State} (h : s.control.endDue = true) :
    exec (.responseEnd .control) s = .next ((openCrossing s).setControl (s.control.finish controlBusyWord)) := by
  simp [exec_responseEnd, endResponse, portOf, h]

theorem Port.finish_of_no_overrun {p : Port} (h : p.overrun = none) (busy : Overrun → Word) :
    p.finish busy = { p with response := none } := by
  simp [Port.finish, h]

theorem Port.finish_of_overrun {p : Port} {o : Overrun} (h : p.overrun = some o) (busy : Overrun → Word) :
    p.finish busy = { p with response := some (.words [busy o]), overrun := none } := by
  simp [Port.finish, h]

/-- Settles O43, on each link by whether the response is over and by the overrun account. -/
theorem responseEndEffect : Obligations.ResponseEndEffect := by
  intro s u ended
  refine ⟨fun h => ?_, fun h => ?_, fun h => ?_, fun h => ?_⟩
  · rw [exec_responseEnd_readout ((Port.endDue_iff _).mpr h)]
    cases ho : s.readout.overrun with
    | none =>
      rw [Port.finish_of_no_overrun ho]
      rfl
    | some o =>
      rw [Port.finish_of_overrun ho]
      rfl
  · rw [exec_responseEnd_control ((Port.endDue_iff _).mpr h)]
    cases ho : s.control.overrun with
    | none =>
      rw [Port.finish_of_no_overrun ho]
      rfl
    | some o =>
      rw [Port.finish_of_overrun ho]
      rfl
  · exact exec_responseEnd_of_not_over (Bool.eq_false_iff.mpr fun hdue => h ((Port.endDue_iff _).mp hdue))
  · exact exec_responseEnd_of_not_over (Bool.eq_false_iff.mpr fun hdue => h ((Port.endDue_iff _).mp hdue))

/-! ### A port over a crossing start -/

/-- A port after a crossing start: a response that is over ends, then one word goes out (R136). -/
def Port.atCrossingStart (b : EventBuffer) (busy : Overrun → Word) (p : Port) : Port :=
  (if p.endDue then p.finish busy else p).send b

section AtCrossingStart

variable {b : EventBuffer} {busy : Overrun → Word} {p : Port}

theorem Port.send_of_idle (h : p.response = none) : p.send b = { p with waits := false, out := none } := by
  simp [Port.send, h]

theorem Port.send_of_waits {r : Response} (h : p.response = some r) (hw : p.waits = true) :
    p.send b = { p with waits := false, out := none } := by
  simp [Port.send, h, hw]

theorem Port.send_of_response {r : Response} (h : p.response = some r) (hw : p.waits = false) :
    p.send b = { p with response := some (sendResponse b r).2, out := (sendResponse b r).1 } := by
  simp [Port.send, h, hw]

/-- A port whose response is not over sends at a crossing start as it stands. -/
theorem Port.atCrossingStart_of_not_over (h : p.endDue = false) : p.atCrossingStart b busy = p.send b := by
  simp [Port.atCrossingStart, h]

theorem Port.atCrossingStart_of_idle (h : p.response = none) :
    p.atCrossingStart b busy = { p with waits := false, out := none } := by
  rw [Port.atCrossingStart_of_not_over (by simp [Port.endDue, h]), Port.send_of_idle h]

theorem Port.atCrossingStart_of_waits {r : Response} (h : p.response = some r) (hw : p.waits = true) :
    p.atCrossingStart b busy = { p with waits := false, out := none } := by
  rw [Port.atCrossingStart_of_not_over (by simp [Port.endDue, h, hw]), Port.send_of_waits h hw]

/-- A response that is not over sends its next word. -/
theorem Port.atCrossingStart_of_response {r : Response} (h : p.response = some r) (hw : p.waits = false)
    (hr : r.finished = false) :
    p.atCrossingStart b busy = { p with response := some (sendResponse b r).2, out := (sendResponse b r).1 } := by
  rw [Port.atCrossingStart_of_not_over (by simp [Port.endDue, h, hr]), Port.send_of_response h hw]

theorem Port.atCrossingStart_of_over (h : p.endDue = true) (ho : p.overrun = none) :
    p.atCrossingStart b busy = { p with response := none, out := none } := by
  have hw : p.waits = false := ((Port.endDue_iff p).mp h).1
  rw [Port.atCrossingStart, if_pos h, Port.finish_of_no_overrun ho, Port.send_of_idle rfl, ← hw]

theorem Port.atCrossingStart_of_over_busy {o : Overrun} (h : p.endDue = true) (ho : p.overrun = some o) :
    p.atCrossingStart b busy = { p with response := some (.words []), overrun := none, out := some (busy o) } := by
  have hw : p.waits = false := ((Port.endDue_iff p).mp h).1
  rw [Port.atCrossingStart, if_pos h, Port.finish_of_overrun ho]
  exact Port.send_of_response (r := .words [busy o]) rfl hw

end AtCrossingStart

/-! ### The word of a stream (R140, R143) -/

theorem sendStream_of_fragment {st : Stream} (hlive : st.aborted = false) (hmore : st.position < st.length)
    (b : EventBuffer) : sendStream b st = (streamWord b st, { st with position := st.position + 1 }) :=
  if_pos ⟨hlive, hmore⟩

theorem sendStream_of_end {st : Stream} (h : st.aborted = true ∨ st.length ≤ st.position) (b : EventBuffer) :
    sendStream b st = (endWord st, { st with ended := true }) :=
  if_neg fun ⟨hlive, hmore⟩ => h.elim (fun ha => by simp [ha] at hlive) (fun hl => absurd hmore (by omega))

/-- A stream that has not ended sends the word of its crossing period. -/
theorem Port.atCrossingStart_of_stream {p : Port} {st : Stream} (h : p.response = some (.stream st))
    (hw : p.waits = false) (he : st.ended = false) (b : EventBuffer) (busy : Overrun → Word) :
    p.atCrossingStart b busy
      = { p with response := some (.stream (sendStream b st).2), out := some (sendStream b st).1 } := by
  rw [Port.atCrossingStart_of_response h hw he]
  simp [sendResponse, he]

/-! ### The ports of a crossing start -/

theorem endResponse_readout (s : State) :
    (endResponse .readout s).readout = (if s.readout.endDue then s.readout.finish readoutBusyWord else s.readout) ∧
      (endResponse .readout s).control = s.control := by
  unfold endResponse portOf
  dsimp only
  split <;> simp

theorem endResponse_control (s : State) :
    (endResponse .control s).control = (if s.control.endDue then s.control.finish controlBusyWord else s.control) ∧
      (endResponse .control s).readout = s.readout := by
  unfold endResponse portOf
  dsimp only
  split <;> simp

/-- The responses are ended on the ports as they were; the words sent are read from the Event Buffer that the crossing start
leaves. -/
theorem startCrossing_ports (pairs : Oct CodePair) (s : State) :
    (startCrossing pairs s).readout = s.readout.atCrossingStart (startCrossing pairs s).buffer readoutBusyWord ∧
      (startCrossing pairs s).control = s.control.atCrossingStart (startCrossing pairs s).buffer controlBusyWord := by
  simp [startCrossing, sendWords, sampleCrossing, endResponse_readout, endResponse_control, Port.atCrossingStart]

/-- Settles O20: on each link the cases of a port over a crossing start. -/
theorem portsSendOneWord : Obligations.PortsSendOneWord := by
  intro pairs s
  refine ⟨startCrossing pairs s, rfl, ?_⟩
  intro sends
  have hsends : ∀ (p : Port) (busy : Overrun → Word),
      sends p (p.atCrossingStart (startCrossing pairs s).buffer busy) busy := by
    intro p busy
    refine ⟨Port.atCrossingStart_of_idle, fun r => Port.atCrossingStart_of_waits, fun hw =>
      ⟨fun w rest h => Port.atCrossingStart_of_response h hw rfl, fun st start h hsource he hlive hmore => ?_,
        fun st header h hsource he hlive hmore => ?_, fun st h he hend => ?_, fun hover => ?_⟩⟩
    · rw [Port.atCrossingStart_of_stream h hw he, sendStream_of_fragment hlive hmore, streamWord, hsource]
    · rw [Port.atCrossingStart_of_stream h hw he, sendStream_of_fragment hlive hmore, streamWord, hsource]
    · rw [Port.atCrossingStart_of_stream h hw he, sendStream_of_end hend]
      rfl
    · have hdue : p.endDue = true := (Port.endDue_iff p).mpr ⟨hw, by
        rcases hover with h | ⟨st, h, he⟩
        · exact ⟨_, h, .inl rfl⟩
        · exact ⟨_, h, .inr ⟨st, rfl, he⟩⟩⟩
      exact ⟨Port.atCrossingStart_of_over hdue, fun o => Port.atCrossingStart_of_over_busy hdue⟩
  obtain ⟨hreadout, hcontrol⟩ := startCrossing_ports pairs s
  rw [hreadout, hcontrol]
  exact ⟨hsends _ _, hsends _ _⟩

end Sys2Proof.Machine
end

section
/-! Requests that are refused: unassigned codes, and requests at a Responding port (R137, R138, R152, R169). -/

namespace Sys2Proof.Machine

/-! ### Unassigned codes (R137, R152) -/

theorem exec_readoutUnassigned {s : State} (h : ReadoutReady s) (code : BitVec 4) :
    exec (.readoutUnassigned code) s
      = .next { s with readout := readoutAnswering s (.words [readoutRefusedWord .range code.toNat]) } :=
  congrArg Host.Outcome.next
    (readoutRequest_of_ready h code.toNat fun t => (t, .words [readoutRefusedWord .range code.toNat]))

theorem exec_controlUnassigned {s : State} (h : ControlReady s) (code : BitVec 5) :
    exec (.controlUnassigned code) s
      = .next { s with control := controlAnswering s ((Reply.refused .range).words code.toNat) } :=
  congrArg Host.Outcome.next (controlRequest_answer_of_ready h code.toNat fun _ => .refused .range)

/-! ### Requests at a Responding port (R138, R169) -/

/-- A readout request is counted under the code its word carries (R138). -/
theorem exec_eq_readoutRequest_of_word {c : Instr} {w : Word} (h : encodeReadoutRequest c = some w) :
    ∃ execute, ∀ s, exec c s = .next (readoutRequest (w.extractLsb' 28 4).toNat execute s) := by
  cases c with
  | fetch | release | status | readoutUnassigned =>
    cases h
    rw [readoutWord_code]
    exact ⟨_, fun _ => rfl⟩
  | _ => cases h

/-- A control request is counted under the code its word carries (R169). -/
theorem exec_eq_controlRequest_of_word {c : Instr} {w : Word} {v : Option Word}
    (h : encodeControlRequest c = some (w, v)) :
    ∃ execute, ∀ s, exec c s = .next (controlRequest (w.extractLsb' 27 5).toNat execute s) := by
  cases c with
  | writeItem | readItem | take | cancelTake | readTakeState | start | stop | restart | revive | readFaults
  | clearCauses | setEnables | clearCounts | scanStart | scanStop | freeze | unfreeze | peekInput | readCell
  | writeCell | readColumn | readWindowSlot | readDescriptor | readPayload | readTracker | diagnosticAccept
  | controlUnassigned =>
    cases h
    rw [controlWord_code]
    exact ⟨_, fun _ => rfl⟩
  | _ => cases h

theorem satInc_eq_min {limit n : Nat} (h : n ≤ limit) : satInc limit n = min (n + 1) limit := by
  unfold satInc
  split <;> omega

theorem Port.overrunBy_eq {p : Port} (h : p.OverrunWithin) (code : Nat) :
    p.overrunBy code = { p with overrun := some (overrunAfter p.overrun code) } := by
  unfold Port.overrunBy
  cases ho : p.overrun with
  | none => rfl
  | some o => simp [overrunAfter, satInc_eq_min (h o ho)]

/-- Settles O47: unassigned codes by the answer of their row, requests at a Responding port by the code of their word. -/
theorem requestsRefused : Obligations.RequestsRefused := by
  refine ⟨fun code s h => ?_, fun code s h => ?_, fun c s => ⟨fun w hw hresponding hcount => ?_,
    fun w v hw hresponding hcount => ?_⟩⟩
  · rw [exec_readoutUnassigned h, readoutRefusedWord, BitVec.ofNat_toNat, BitVec.setWidth_eq]
    rfl
  · rw [exec_controlUnassigned h, Reply.words, controlHeader, BitVec.ofNat_toNat, BitVec.setWidth_eq]
    rfl
  · obtain ⟨execute, hexec⟩ := exec_eq_readoutRequest_of_word hw
    rw [hexec, readoutRequest_of_responding (Option.isSome_iff_ne_none.mpr hresponding), Port.overrunBy_eq hcount]
    rfl
  · obtain ⟨execute, hexec⟩ := exec_eq_controlRequest_of_word hw
    rw [hexec, controlRequest_of_responding (Option.isSome_iff_ne_none.mpr hresponding), Port.overrunBy_eq hcount]
    rfl

end Sys2Proof.Machine
end

section
/-! The reads of window slots, descriptors, payload words and accumulators (R151, R189). -/

namespace Sys2Proof.Machine

/-! ### The commands and their arguments (R152) -/

section Reads

variable {s : State} (h : ControlReady s)
include h

theorem exec_readWindowSlot (slot : BitVec 11) :
    exec (.readWindowSlot slot) s = .next { s with control := controlAnswering s ((windowReply slot s).words 22) } :=
  congrArg Host.Outcome.next (controlRequest_answer_of_ready h 22 (windowReply slot))

theorem exec_readDescriptor (index : BitVec 11) :
    exec (.readDescriptor index) s
      = .next { s with control := controlAnswering s ((descriptorReply index s).words 23) } :=
  congrArg Host.Outcome.next (controlRequest_answer_of_ready h 23 (descriptorReply index))

theorem exec_readPayload (word : BitVec 16) :
    exec (.readPayload word) s = .next { s with control := controlAnswering s ((payloadReply word s).words 24) } :=
  congrArg Host.Outcome.next (controlRequest_answer_of_ready h 24 (payloadReply word))

theorem exec_readTracker (channel : BitVec 16) :
    exec (.readTracker channel) s = .next { s with control := controlAnswering s ((trackerReply channel s).words 25) } :=
  congrArg Host.Outcome.next (controlRequest_answer_of_ready h 25 (trackerReply channel))

end Reads

theorem slotArgument_of_ge {a : BitVec 11} (h : 4 ≤ a.toNat) : slotArgument a = none :=
  dif_neg (by omega)

theorem slotArgument_of_eq {a : BitVec 11} {n : Fin 4} (h : a.toNat = n.val) : slotArgument a = some n := by
  unfold slotArgument
  rw [dif_pos (by omega)]
  exact congrArg some (Fin.ext h)

theorem descriptorArgument_of_ge {a : BitVec 11} (h : 64 ≤ a.toNat) : descriptorArgument a = none :=
  if_neg (by unfold Config.ringDepth; omega)

theorem descriptorArgument_of_lt {a : BitVec 11} (h : a.toNat < 64) : descriptorArgument a = some a.toNat :=
  if_pos (by unfold Config.ringDepth; omega)

theorem payloadArgument_of_ge {a : BitVec 16} (h : 8192 ≤ a.toNat) : payloadArgument a = none :=
  if_neg (by unfold Config.payloadWords; omega)

theorem payloadArgument_of_lt {a : BitVec 16} (h : a.toNat < 8192) : payloadArgument a = some a.toNat :=
  if_pos (by unfold Config.payloadWords; omega)

/-! ### The words in use (R118, R189) -/

/-- The words in use are those that come round to the fill point within their number (R118). -/
theorem wordInUse_iff {b : EventBuffer} {i : Nat} (hi : i < 8192) (hfill : b.fillPoint < 8192)
    (huse : b.wordsInUse ≤ 8192) :
    wordInUse b i = true ↔ ∃ k, k < b.wordsInUse ∧ (i + k + 1) % 8192 = b.fillPoint := by
  simp only [wordInUse, Config.payloadWords, decide_eq_true_eq]
  constructor
  · intro h
    exact ⟨b.wordsInUse - 1 - (i + b.wordsInUse + 8192 - b.fillPoint) % 8192, by omega, by omega⟩
  · rintro ⟨k, hk, hround⟩
    omega

/-! ### The obligation -/

/-- Settles O59: each read answers from the state as it stands, by the range of its argument and by what it finds. -/
theorem unitReadsAnswer : Obligations.UnitReadsAnswer := by
  intro s h word columnWord answered absent counted
  have hword : ∀ x, cellWord x = word x := fun x => by
    rw [cellWord, Gain.bit_eq]
    rfl
  have hcolumn : columnWords = columnWord := funext fun x => by
    simp only [columnWords, Oct.toList, List.map, hword]
    rfl
  refine ⟨fun slot => ⟨fun hrange => ?_, fun n hslot => ⟨fun hfree => ?_, fun w hfound => ?_⟩⟩,
    fun index => ⟨fun hrange => ?_, fun hindex hnone => ?_, fun d hindex hsome => ?_⟩,
    fun payload => ⟨fun hrange => ?_, fun hpayload hfill huse => ?_⟩,
    fun channel => ⟨fun hrange => ?_, fun ch hchannel => ?_⟩⟩
  · refine (exec_readWindowSlot h slot).trans ?_
    rw [windowReply, slotArgument_of_ge hrange]
    rfl
  · refine (exec_readWindowSlot h slot).trans ?_
    simp only [windowReply, slotArgument_of_eq hslot, hfree]
    rfl
  · refine (exec_readWindowSlot h slot).trans ?_
    simp only [windowReply, slotArgument_of_eq hslot, hfound, windowWords, hcolumn]
    cases w.state <;> cases w.testMatch <;> rfl
  · refine (exec_readDescriptor h index).trans ?_
    rw [descriptorReply, descriptorArgument_of_ge hrange]
    rfl
  · refine (exec_readDescriptor h index).trans ?_
    simp only [descriptorReply, descriptorArgument_of_lt hindex, hnone]
    rfl
  · refine (exec_readDescriptor h index).trans ?_
    simp only [descriptorReply, descriptorArgument_of_lt hindex, hsome, descriptorWords, descriptorFlags]
    cases d.state <;> cases d.testMatch <;> cases d.payload <;> rfl
  · refine (exec_readPayload h payload).trans ?_
    rw [payloadReply, payloadArgument_of_ge hrange]
    rfl
  · refine (exec_readPayload h payload).trans ?_
    simp only [payloadReply, payloadArgument_of_lt hpayload, flagWord_eq, wordInUse_iff hpayload hfill huse]
    rfl
  · refine (exec_readTracker h channel).trans ?_
    rw [trackerReply, channelArgument_of_ge hrange]
    rfl
  · intro held hg lg
    have hheld : ∀ a : Accumulator, optionWord numberWord a.held = held a := fun a => by
      dsimp only [held]
      cases a.held <;> rfl
    refine (exec_readTracker h channel).trans ?_
    simp only [trackerReply, channelArgument_of_eq hchannel, accumulatorWords, hheld]
    rfl

end Sys2Proof.Machine
end

section
/-! The setting sets over the commands: every value in its range, and the Active Set consistent (R156 to R161, R165). -/

namespace Sys2Proof.Machine

/-! ### The item catalogue (R156, R157) -/

theorem itemRow_of_mem : ∀ r ∈ catalogue, itemRow r.number = some r := by decide

theorem itemRow_eq_some_iff {n : Nat} {r : ItemRow} : itemRow n = some r ↔ r ∈ catalogue ∧ r.number = n := by
  constructor
  · intro h
    exact ⟨List.mem_of_find?_eq_some h, by simpa using List.find?_some h⟩
  · rintro ⟨hr, rfl⟩
    exact itemRow_of_mem r hr

theorem itemRow_eq_none_iff {n : Nat} : itemRow n = none ↔ ∀ r ∈ catalogue, r.number ≠ n := by
  simp [itemRow, List.find?_eq_none]

theorem windowGroup_iff : ∀ r ∈ catalogue, (r.scope = .windowGroup ↔ r.number = 51) := by decide

theorem low_le_high : ∀ r ∈ catalogue, r.low ≤ r.high := by decide

/-- An item's address lies in the eight places of its number (log 15). -/
theorem itemArgument_div {row : ItemRow} {index item : Nat} (h : itemArgument row index = some item) :
    item / 8 = row.number := by
  unfold itemArgument valueAddress at h
  split at h
  · split at h
    · have := Option.some.inj h; omega
    · cases h
  · split at h
    · have := Option.some.inj h; omega
    · cases h
  · have := Option.some.inj h; omega
  · have := Option.some.inj h; omega

/-- The range of a value of an item with one value (R156, R157). -/
theorem valueInRange_of_row {row : ItemRow} (hrow : row ∈ catalogue) (hg : row.scope ≠ .windowGroup) {a : Nat}
    (ha : a / 8 = row.number) {v : Int} : valueInRange a v = true ↔ row.low ≤ v ∧ v ≤ row.high := by
  have h51 : row.number ≠ 51 := fun h => hg ((windowGroup_iff row hrow).mpr h)
  simp [valueInRange, ha, h51, itemRow_of_mem row hrow]

theorem clampTo_mem {low high : Int} (h : low ≤ high) (v : Int) : low ≤ clampTo low high v ∧ clampTo low high v ≤ high := by
  rw [clampTo_eq h]
  omega

/-! ### Values in their ranges -/

/-- Every listed value of a setting set lies in its range (R156, R157). -/
def ValuesInRange (m : List (Nat × Int)) : Prop := ∀ e ∈ m, valueInRange e.1 e.2 = true

/-- A read of a store gives what an unlisted address holds, or an entry. -/
theorem Memory.read_default_or_mem {α : Type} (d : Nat → α) (m : List (Nat × α)) (a : Nat) :
    Memory.read d m a = d a ∨ (a, Memory.read d m a) ∈ m := by
  induction m with
  | nil => exact .inl rfl
  | cons e m ih =>
    rw [Memory.read_cons]
    split
    · next h => exact .inr (by simp [h])
    · exact ih.imp_right (List.mem_cons_of_mem _)

theorem ValuesInRange.itemValue {m : List (Nat × Int)} (h : ValuesInRange m) {a : Nat}
    (ha : itemValue m a ≠ catalogueDefault a) : valueInRange a (itemValue m a) = true :=
  h (a, _) ((Memory.read_default_or_mem _ m a).resolve_left ha)

theorem ValuesInRange.setItemValue {m : List (Nat × Int)} (h : ValuesInRange m) {a : Nat} {v : Int}
    (hv : v ≠ catalogueDefault a → valueInRange a v = true) : ValuesInRange (setItemValue m a v) := by
  intro e he
  rcases Memory.mem_write he with ⟨rfl, hne⟩ | hm
  · exact hv hne
  · exact h e hm

theorem ValuesInRange.foldl {β : Type} {a : β → Nat} {v : β → Int} {l : List β}
    (hv : ∀ b ∈ l, v b ≠ catalogueDefault (a b) → valueInRange (a b) (v b) = true) {m : List (Nat × Int)}
    (h : ValuesInRange m) : ValuesInRange (l.foldl (fun m b => Machine.setItemValue m (a b) (v b)) m) := by
  induction l generalizing m with
  | nil => exact h
  | cons b l ih =>
    exact ih (fun c hc => hv c (List.mem_cons_of_mem _ hc)) (h.setItemValue (hv b List.mem_cons_self))

/-- Both setting sets hold values in their ranges. -/
def Settings.InRange (x : Settings) : Prop := ValuesInRange x.pending ∧ ValuesInRange x.active

theorem Settings.InRange.producedSet {x : Settings} (h : x.InRange) : ValuesInRange (producedSet x) :=
  ValuesInRange.foldl (a := id) (v := Machine.itemValue x.pending) (fun _ _ hne => h.1.itemValue hne) h.2

theorem Settings.InRange.storePending {x : Settings} (h : x.InRange) (item : Nat) {values : List (Nat × Int)}
    (hv : ∀ v ∈ values, valueInRange v.1 v.2 = true) : (storePending x item values).InRange :=
  ⟨ValuesInRange.foldl (a := Prod.fst) (v := Prod.snd) (fun v hmem _ => hv v hmem) h.1, h.2⟩

/-- A field of the Window group is clamped into its range (R159). -/
theorem valueInRange_clamped {a : Nat} {low high d : Int} (ha : a / 8 = 51)
    (hfield : windowField (a % 8) = (low, high, d)) (h : low ≤ high) (v : Int) :
    valueInRange a (clampTo low high v) = true := by
  simp only [valueInRange, ha, hfield, if_true, decide_eq_true_iff]
  exact clampTo_mem h v

/-- The four fields of a Window group, each clamped to its own range, at their places (R151, R159). -/
def windowEntries (value : Word) : List (Nat × Int) :=
  [(408, clampTo 16 240 ((value.extractLsb' 24 8).toNat : Int)), (409, clampTo 0 8 ((value.extractLsb' 20 4).toNat : Int)),
   (410, clampTo 0 8 ((value.extractLsb' 16 4).toNat : Int)), (411, clampTo 0 11 ((value.extractLsb' 12 4).toNat : Int))]

theorem writeWindowGroup_fst (value : Word) (x : Settings) :
    (writeWindowGroup value x).1 = storePending x 408 (windowEntries value) := by
  simp only [writeWindowGroup, windowWordFields, windowEntries, List.zipIdx_cons, List.zipIdx_nil, List.map_cons, List.map_nil,
    windowField, windowAddress, valueAddress]

theorem windowEntries_inRange (value : Word) : ∀ v ∈ windowEntries value, valueInRange v.1 v.2 = true := by
  simp only [windowEntries, List.forall_mem_cons]
  exact ⟨valueInRange_clamped rfl rfl (by decide) _, valueInRange_clamped rfl rfl (by decide) _,
    valueInRange_clamped rfl rfl (by decide) _, valueInRange_clamped rfl rfl (by decide) _, nofun⟩

theorem Settings.InRange.writeWindowGroup {x : Settings} (h : x.InRange) (value : Word) :
    (writeWindowGroup value x).1.InRange := by
  rw [writeWindowGroup_fst]
  exact h.storePending 408 (windowEntries_inRange value)

/-- WriteItem stores a value in the range of its item (R158). -/
theorem Settings.InRange.writeItemValue {x : Settings} (h : x.InRange) (number index : Nat) (value : Word) :
    (writeItemValue number index value x).1.InRange := by
  unfold Machine.writeItemValue
  split
  · exact h
  · next row hrow =>
    obtain ⟨hmem, -⟩ := itemRow_eq_some_iff.mp hrow
    split
    · exact h
    · next item hitem =>
      split
      · exact h
      · split
        · exact h.writeWindowGroup value
        · next hg =>
          have hstore {v : Int} (hv : row.low ≤ v ∧ v ≤ row.high) : (Machine.storePending x item [(item, v)]).InRange := by
            refine h.storePending item fun w hw => ?_
            obtain rfl := List.mem_singleton.mp hw
            exact (valueInRange_of_row hmem hg (itemArgument_div hitem)).mpr hv
          split
          · next hrange => exact hstore hrange
          · split
            · exact h
            · exact hstore (clampTo_mem (low_le_high row hmem) _)

/-! ### The accumulators (R173, R174) -/

/-- Every accumulator of the tracker is bounded. -/
def AccumulatorsBounded (o : Oct TrackerChannel) : Prop := ∀ ch : Channel, (o.get ch).hg.Bounded ∧ (o.get ch).lg.Bounded

/-- An accumulator that holds no code is bounded by its candidate alone. -/
theorem Accumulator.bounded_fresh {held : Option Nat} (h : ∀ c ∈ held, c ≤ 16380) : Accumulator.Bounded ⟨0, 0, held, none⟩ :=
  ⟨Nat.zero_lt_succ _, Nat.zero_le _, h⟩

theorem Accumulator.bounded_clear : Accumulator.clear.Bounded := Accumulator.bounded_fresh nofun

theorem Accumulator.Bounded.restarted {a : Accumulator} (h : a.Bounded) : a.restarted.Bounded :=
  Accumulator.bounded_fresh h.2.2

theorem Accumulator.Bounded.addCode {a : Accumulator} (h : a.Bounded) (code : Code) : (addCode code a).Bounded := by
  obtain ⟨hcount, hsum, hheld⟩ := h
  unfold Machine.addCode
  split
  · next hroom =>
    refine ⟨hroom, ?_, hheld⟩
    have := code.isLt
    dsimp only
    omega
  · exact ⟨hcount, hsum, hheld⟩

/-- A candidate is at most four times the full scale of a code (R174). -/
theorem Accumulator.Bounded.candidateOf_le {a : Accumulator} (h : a.Bounded) (code : Code) : candidateOf a code ≤ 16380 := by
  obtain ⟨hcount, hsum, -⟩ := h
  have := code.isLt
  unfold candidateOf Config.candidateCodes at *
  omega

theorem AccumulatorsBounded.get {s : State} (h : AccumulatorsBounded s.tracker) (ch : Channel) (g : Gain) :
    (accumulator s ch g).Bounded := by
  cases g
  · exact (h ch).1
  · exact (h ch).2

theorem AccumulatorsBounded.setAccumulator {s : State} (h : AccumulatorsBounded s.tracker) (ch : Channel) (g : Gain)
    {a : Accumulator} (ha : a.Bounded) : AccumulatorsBounded (setAccumulator s ch g a).tracker := by
  have hget (k : Channel) (e : Gain) : (accumulator (Machine.setAccumulator s ch g a) k e).Bounded := by
    rw [accumulator_setAccumulator]
    split
    · exact ha
    · exact h.get k e
  exact fun k => ⟨hget k .high, hget k .low⟩

/-- A take leaves an accumulator as it is, restarts it or clears it (R176). -/
theorem trackerAfterTake_bounded (hgCarried lgCarried switchedOff modeChanged : Bool) {t : TrackerChannel}
    (h : t.hg.Bounded ∧ t.lg.Bounded) :
    (trackerAfterTake hgCarried lgCarried switchedOff modeChanged t).hg.Bounded ∧
      (trackerAfterTake hgCarried lgCarried switchedOff modeChanged t).lg.Bounded := by
  have hgain {a : Accumulator} (ha : a.Bounded) (carried : Bool) :
      (if carried then Accumulator.clear else if modeChanged then a.restarted else a).Bounded := by
    split
    · exact Accumulator.bounded_clear
    · split
      · exact ha.restarted
      · exact ha
  obtain ⟨hhg, hlg⟩ := h
  unfold trackerAfterTake
  split
  · exact ⟨Accumulator.bounded_clear, Accumulator.bounded_clear⟩
  · exact ⟨hgain hhg hgCarried, hgain hlg lgCarried⟩

theorem accumulatePair_bounded (p : CodePair) {t : TrackerChannel} (h : t.hg.Bounded ∧ t.lg.Bounded) :
    (accumulatePair p t).hg.Bounded ∧ (accumulatePair p t).lg.Bounded := by
  have hgain {a : Accumulator} (ha : a.Bounded) (fault : Bool) (code : Code) :
      (if fault then a else addCode code a).Bounded := by
    split
    · exact ha
    · exact ha.addCode code
  exact ⟨hgain h.1 p.hgFault p.hg, hgain h.2 p.lgFault p.lg⟩

/-! ### The ranges are kept -/

/-- A bounded candidate lies in the range of the pedestals (R156, R174). -/
theorem valueInRange_pedestal (ch : Channel) (g : Gain) {c : Nat} (hc : c ≤ 16380) :
    valueInRange (pedestalAddress ch g) (c : Int) = true := by
  cases g with
  | high =>
    refine (valueInRange_of_row (row := ⟨3, .perChannel, false, 0, 16383, 800, false⟩) (by decide) (by decide) ?_).mpr
      (by dsimp only; omega)
    simp only [pedestalAddress, valueAddress]
    omega
  | low =>
    refine (valueInRange_of_row (row := ⟨4, .perChannel, false, 0, 16383, 800, false⟩) (by decide) (by decide) ?_).mpr
      (by dsimp only; omega)
    simp only [pedestalAddress, valueAddress]
    omega

theorem settingsInRange_kept : KeptByOperations fun s => s.settings.InRange ∧ AccumulatorsBounded s.tracker where
  powerOnReset _ _ := ⟨⟨by simp [ValuesInRange, State.reset], by simp [ValuesInRange, State.reset]⟩, trackerBounded_reset⟩
  restartPart _ h := ⟨h.1, trackerBounded_reset⟩
  formCandidate ch g s h := by
    refine ⟨by simpa using h.1, ?_⟩
    obtain ⟨-, htracker⟩ := h
    obtain ⟨-, -, hheld⟩ := htracker.get ch g
    unfold formCandidate
    dsimp only
    split
    · exact htracker
    · next code _ =>
      split
      · refine htracker.setAccumulator ch g (Accumulator.bounded_fresh fun c hc => ?_)
        obtain rfl : _ = c := Option.some.inj hc
        exact (htracker.get ch g).candidateOf_le code
      · exact htracker.setAccumulator ch g (Accumulator.bounded_fresh hheld)
  applyTake s h := by
    unfold applyTake
    split
    · refine ⟨⟨h.1.1, h.1.producedSet⟩, fun ch => ?_⟩
      simp only [State.setSettings_tracker, State.setTracker_tracker, trackerAtTake, Oct.get_ofFn]
      exact trackerAfterTake_bounded _ _ _ _ (h.2 ch)
    · exact h
  installCandidate ch g s h := by
    obtain ⟨⟨hpending, hactive⟩, htracker⟩ := h
    obtain ⟨hcount, hsum, hheld⟩ := htracker.get ch g
    have hoffered := htracker.setAccumulator ch g (a := { accumulator s ch g with held := none }) ⟨hcount, hsum, nofun⟩
    unfold installCandidate
    dsimp only
    split
    · exact ⟨⟨hpending, hactive⟩, htracker⟩
    · next c hc =>
      split
      · exact ⟨⟨hpending, hactive.setItemValue fun _ => valueInRange_pedestal ch g (hheld c hc)⟩, hoffered⟩
      · exact ⟨⟨hpending, hactive⟩, hoffered⟩
  countGeneration m s h := by
    unfold countGeneration
    split <;> exact h
  accumulatePedestals pairs s h := by
    refine ⟨by simpa using h.1, ?_⟩
    unfold accumulatePedestals
    split
    · exact h.2
    · split
      · exact h.2
      · intro ch
        rw [State.setTracker_tracker, Oct.get_ofFn]
        split
        · exact accumulatePair_bounded _ (h.2 ch)
        · exact h.2 ch
  writeItem number index value s h := ⟨h.1.writeItemValue number index value, h.2⟩
  scheduleTake s h := by
    unfold scheduleTake
    split <;> exact h
  cancelScheduled _ h := h

/-- Settles O10: every operation keeps both setting sets in range and the accumulators bounded, so that what an install stores is
in range too. -/
theorem settingsInRangeKept : Obligations.SettingsInRangeKept := by
  intro s t hs hstep
  obtain ⟨hpending, hactive, htracker⟩ := hs
  obtain ⟨⟨hpending', hactive'⟩, htracker'⟩ := settingsInRange_kept.step ⟨⟨hpending, hactive⟩, htracker⟩ hstep
  exact ⟨hpending', hactive', htracker'⟩

/-! ### The Active Set is consistent (R161, R165) -/

theorem ActiveConsistent.of_settings {s t : State} (hs : ActiveConsistent s) (h : t.settings = s.settings) :
    ActiveConsistent t := by
  unfold ActiveConsistent
  rwa [h]

/-- An install changes no value but its pedestal (R175). -/
theorem installCandidate_itemValue (ch : Channel) (g : Gain) (s : State) {a : Nat} (ha : a ≠ pedestalAddress ch g) :
    itemValue (installCandidate ch g s).settings.active a = itemValue s.settings.active a := by
  unfold installCandidate
  dsimp only
  split
  · rfl
  · split
    · simp only [State.setSettings_settings, setAccumulator_frame]
      exact itemValue_setItemValue_of_ne _ _ ha
    · simp

/-- The installs of a boundary change no value but pedestals (R175). -/
theorem installCandidates_itemValue (s : State) {a : Nat} (h3 : a / 8 ≠ 3) (h4 : a / 8 ≠ 4) :
    itemValue (installCandidates s).settings.active a = itemValue s.settings.active a := by
  refine foldl_frame (fun t => itemValue t.settings.active a) _ (fun t (p : Channel × Gain) => ?_) trackerPlaces s
  refine installCandidate_itemValue p.1 p.2 t ?_
  rintro rfl
  rcases p with ⟨ch, _ | _⟩ <;> simp only [pedestalAddress, valueAddress] at h3 h4 <;> omega

/-- The seven conditions speak of no pedestal (R161). -/
theorem consistent_congr {v w : Nat → Int} (h : ∀ a, a / 8 ≠ 3 → a / 8 ≠ 4 → v a = w a) : Consistent v ↔ Consistent w := by
  unfold Consistent
  simp only [h 408 (by decide) (by decide), h 409 (by decide) (by decide), h 410 (by decide) (by decide),
    h 411 (by decide) (by decide), h (8 * 48) (by decide) (by decide), h (8 * 49) (by decide) (by decide),
    h (8 * 50) (by decide) (by decide), h (8 * 58) (by decide) (by decide), h (8 * 59) (by decide) (by decide),
    h (8 * 60) (by decide) (by decide), h (8 * 61) (by decide) (by decide), h (8 * 62) (by decide) (by decide),
    h (8 * 63) (by decide) (by decide), h (8 * 67) (by decide) (by decide), h (8 * 68) (by decide) (by decide)]

/-- A boundary puts the set a scheduled take produces in force, and installs pedestals (R165). -/
theorem settingsBoundary_consistent {s : State} (hs : ActiveConsistent s) :
    Consistent (itemValue (settingsBoundary s).settings.active) := by
  obtain ⟨hactive, hproduced⟩ := hs
  rw [settingsBoundary, countGeneration_active, consistent_congr fun a => installCandidates_itemValue _]
  unfold applyTake
  split
  · next htake => exact hproduced htake
  · exact hactive

theorem takeBoundary_activeConsistent {s : State} (hs : ActiveConsistent s) : ActiveConsistent (takeBoundary s) := by
  rcases takeBoundary_cases s with he | ⟨p, f, hp, hf, hdue⟩
  · rwa [he]
  · rw [takeBoundary_of_due hp hf hdue]
    have htaken : ActiveConsistent (settingsBoundary s) :=
      ⟨settingsBoundary_consistent hs, fun ht => by rw [settingsBoundary_take] at ht; cases ht⟩
    exact htaken.of_settings (by simp)

/-- A write leaves the Active Set, and everything while a take is scheduled (R158). -/
theorem stored_activeConsistent {s : State} (number index : Nat) (value : Word) (hs : ActiveConsistent s) :
    ActiveConsistent (s.setSettings (writeItemValue number index value s.settings).1) := by
  cases htake : s.settings.take with
  | scheduled => exact hs.of_settings (writeItemValue_of_scheduled htake number index value)
  | none =>
    have hnone := (writeItemValue_take number index value s.settings).trans htake
    refine ⟨?_, fun ht => by cases hnone.symm.trans ht⟩
    rcases writeItemValue_fst_cases number index value s.settings with he | ⟨item, values, he⟩
    · simpa [he] using hs.1
    · simpa [he, storePending] using hs.1

/-- A take is scheduled when the set it would produce passes the check (R162). -/
theorem consistent_of_takeReply_scheduled {s : State} (h : takeReply s = .scheduled) :
    Consistent (itemValue (producedSet s.settings)) := by
  rw [← firstFailing_eq_none_iff]
  unfold takeReply at h
  split at h
  · cases h
  · split at h
    · cases h
    · split at h
      · cases h
      · split at h
        · cases h
        · assumption

theorem activeConsistent_move {s t : State} (h : CrossingMove s t) (hs : ActiveConsistent s) : ActiveConsistent t := by
  cases h with
  | same h => exact hs.of_settings h.settings
  | opened | numbered | marker | closed | started => exact hs.of_settings (by simp)
  | boundary => exact takeBoundary_activeConsistent hs
  | poweredOn => exact ⟨consistent_default, nofun⟩
  | restarted => exact ⟨hs.1, nofun⟩
  | stored number index value => exact stored_activeConsistent number index value hs
  | scheduled =>
    unfold scheduleTake
    split
    · next hreply =>
      have hproduced := consistent_of_takeReply_scheduled hreply
      exact ⟨hs.1, fun _ => hproduced⟩
    · exact hs
  | cancelled => exact ⟨hs.1, nofun⟩

/-- Settles O9: every move keeps the Active Set consistent; a take is checked when it is scheduled, and no write comes between. -/
theorem activeConsistentKept : Obligations.ActiveConsistentKept := fun _ _ hs hstep =>
  step_keeps_of_moves (P := ActiveConsistent) (fun _ _ h => h) (fun _ _ => activeConsistent_move) hs hstep

end Sys2Proof.Machine
end

section
/-! Requests to the Settings Store: WriteItem, ReadItem, Take, CancelTake, ReadTakeState (R156 to R164). -/

namespace Sys2Proof.Machine

/-! ### The places of an item (R156, R157) -/

/-- The places of an item's values: eight channels, four towers, or one (R156, R157). -/
def ItemRow.places (r : ItemRow) : Nat :=
  match r.scope with
  | .perChannel => 8
  | .perTower => 4
  | .global => 1
  | .windowGroup => 1

/-- An index that is a place of its item names a value; an item with one place ignores it (R152, R158). -/
theorem itemArgument_of_place {r : ItemRow} {index : Nat} (h : r.places = 1 ∨ index < r.places) :
    itemArgument r index = some (8 * r.number + if r.places = 1 then 0 else index) := by
  unfold ItemRow.places at *
  unfold itemArgument valueAddress
  cases hs : r.scope <;> simp only [hs] at h ⊢
  · rw [if_pos (by omega), if_neg (by decide), Nat.mul_comm]
  · rw [if_pos (by omega), if_neg (by decide), Nat.mul_comm]
  · rw [if_pos trivial, Nat.mul_comm]
  · rw [if_pos trivial, Nat.mul_comm]

theorem itemArgument_of_no_place {r : ItemRow} {index : Nat} (h1 : r.places ≠ 1) (h : r.places ≤ index) :
    itemArgument r index = none := by
  unfold ItemRow.places at *
  unfold itemArgument
  cases hs : r.scope <;> simp only [hs] at h h1 ⊢
  · rw [if_neg (by omega)]
  · rw [if_neg (by omega)]
  · exact absurd rfl h1
  · exact absurd rfl h1

theorem exists_windowRow : ∃ r ∈ catalogue, r.number = 51 ∧ r.scope = .windowGroup := by
  decide

/-- The Window group has one place (R157). -/
theorem itemArgument_of_window {r : ItemRow} (h : r.scope = .windowGroup) (index : Nat) : ∃ a, itemArgument r index = some a :=
  ⟨_, itemArgument_of_place (.inl (by rw [ItemRow.places, h]))⟩

/-- The catalogue but for the Window group, as rows of number, places, whether the item is enumerated, and range. -/
def singleRows : List (Nat × Nat × Bool × Int × Int) :=
  (catalogue.filter fun r => !(r.scope == .windowGroup)).map fun r => (r.number, r.places, r.enumerated, r.low, r.high)

theorem mem_singleRows {x : Nat × Nat × Bool × Int × Int} :
    x ∈ singleRows ↔
      ∃ r ∈ catalogue, r.scope ≠ .windowGroup ∧ x = (r.number, r.places, r.enumerated, r.low, r.high) := by
  unfold singleRows
  simp only [List.mem_map, List.mem_filter, Bool.not_eq_true', beq_eq_false_iff_ne, and_assoc]
  exact exists_congr fun r => and_congr_right fun _ => and_congr_right fun _ => eq_comm

/-! ### WriteItem, row by row (R158) -/

theorem writeItemValue_of_no_row {number : Nat} (h : itemRow number = none) (index : Nat) (value : Word) (x : Settings) :
    writeItemValue number index value x = (x, .refused .range) := by
  rw [writeItemValue, h]

section Row

variable {r : ItemRow} (hr : r ∈ catalogue) {index : Nat} (value : Word) (x : Settings)
include hr

theorem writeItemValue_of_no_place (h : itemArgument r index = none) :
    writeItemValue r.number index value x = (x, .refused .range) := by
  simp only [writeItemValue, itemRow_of_mem r hr, h]

variable {value x} {a : Nat} (ha : itemArgument r index = some a)
include ha

theorem writeItemValue_of_pending (ht : x.take = .scheduled) :
    writeItemValue r.number index value x = (x, .refused .takePending) := by
  simp only [writeItemValue, itemRow_of_mem r hr, ha, if_pos ht]

variable (ht : x.take = .none)
include ht

theorem writeItemValue_of_window (hg : r.scope = .windowGroup) :
    writeItemValue r.number index value x = writeWindowGroup value x := by
  simp only [writeItemValue, itemRow_of_mem r hr, ha, ht, if_pos hg, reduceCtorEq, if_false]

variable (hg : r.scope ≠ .windowGroup)
include hg

theorem writeItemValue_of_inRange (h : r.low ≤ value.toInt ∧ value.toInt ≤ r.high) :
    writeItemValue r.number index value x = (storePending x a [(a, value.toInt)], .done []) := by
  simp only [writeItemValue, itemRow_of_mem r hr, ha, ht, if_neg hg, if_pos h, reduceCtorEq, if_false]

theorem writeItemValue_of_enumerated (h : ¬ (r.low ≤ value.toInt ∧ value.toInt ≤ r.high)) (he : r.enumerated = true) :
    writeItemValue r.number index value x = (x, .refused .range) := by
  simp only [writeItemValue, itemRow_of_mem r hr, ha, ht, if_neg hg, if_neg h, if_pos he, reduceCtorEq, if_false]

theorem writeItemValue_of_clamped (h : ¬ (r.low ≤ value.toInt ∧ value.toInt ≤ r.high)) (he : r.enumerated = false)
    {v : Int} (hv : clampTo r.low r.high value.toInt = v) :
    writeItemValue r.number index value x = (storePending x a [(a, v)], .clamped (signedWord v)) := by
  subst hv
  simp only [writeItemValue, itemRow_of_mem r hr, ha, ht, if_neg hg, if_neg h, he, reduceCtorEq, if_false,
    Bool.false_eq_true]

end Row

theorem clampTo_of_lt {low high v : Int} (h : v < low) : clampTo low high v = low := if_pos h

theorem clampTo_of_gt {low high v : Int} (hle : low ≤ high) (h : high < v) : clampTo low high v = high := by
  rw [clampTo, if_neg (by omega), if_pos h]

/-! ### WriteItem of the Window group (R159) -/

theorem clampTo_eq_self_iff {low high : Int} (h : low ≤ high) (v : Int) :
    clampTo low high v = v ↔ low ≤ v ∧ v ≤ high := by
  rw [clampTo_eq h]
  omega

/-- Every field of the value word lies in its range (R157, R159). -/
abbrev WindowInRange (value : Word) : Prop :=
  16 ≤ (value.extractLsb' 24 8).toNat ∧ (value.extractLsb' 24 8).toNat ≤ 240 ∧ (value.extractLsb' 20 4).toNat ≤ 8 ∧
    (value.extractLsb' 16 4).toNat ≤ 8 ∧ (value.extractLsb' 12 4).toNat ≤ 11

/-- A Window group is answered Done where no field is clamped, and with what is stored otherwise (R159). -/
theorem writeWindowGroup_snd (value : Word) (x : Settings) :
    (writeWindowGroup value x).2
      = if WindowInRange value then .done [] else .clamped (windowWord (writeWindowGroup value x).1.pending) := by
  unfold writeWindowGroup
  dsimp only
  refine if_congr ?_ rfl rfl
  simp only [windowWordFields, List.zipIdx_cons, List.zipIdx_nil, List.map_cons, List.map_nil, windowField, List.pure_def,
    List.bind_eq_flatMap, List.flatMap_cons, List.flatMap_nil, List.cons_append, List.nil_append, List.cons.injEq, and_true,
    clampTo_eq_self_iff (show (16 : Int) ≤ 240 by decide), clampTo_eq_self_iff (show (0 : Int) ≤ 8 by decide), clampTo_eq_self_iff (show (0 : Int) ≤ 11 by decide)]
  omega

/-- The Pending Set after a write of the Window group (R159). -/
theorem itemValue_writeWindowGroup {x : Settings} (h : Memory.wf catalogueDefault x.pending = true) (value : Word) (a : Nat) :
    itemValue (writeWindowGroup value x).1.pending a
      = if a = 411 then clampTo 0 11 ((value.extractLsb' 12 4).toNat : Int)
        else if a = 410 then clampTo 0 8 ((value.extractLsb' 16 4).toNat : Int)
        else if a = 409 then clampTo 0 8 ((value.extractLsb' 20 4).toNat : Int)
        else if a = 408 then clampTo 16 240 ((value.extractLsb' 24 8).toNat : Int)
        else itemValue x.pending a := by
  rw [writeWindowGroup_fst]
  simp only [storePending, windowEntries, List.foldl_cons, List.foldl_nil]
  have h408 := setItemValue_wf h 408 (clampTo 16 240 ((value.extractLsb' 24 8).toNat : Int))
  have h409 := setItemValue_wf h408 409 (clampTo 0 8 ((value.extractLsb' 20 4).toNat : Int))
  have h410 := setItemValue_wf h409 410 (clampTo 0 8 ((value.extractLsb' 16 4).toNat : Int))
  rw [itemValue_setItemValue h410, itemValue_setItemValue h409, itemValue_setItemValue h408, itemValue_setItemValue h]

theorem clampTo_latency (n : Nat) : clampTo 16 240 (n : Int) = (max 16 (min n 240) : Nat) := by
  rw [clampTo_eq (by decide)]
  omega

theorem clampTo_zero {high : Nat} (n : Nat) : clampTo 0 (high : Int) (n : Int) = (min n high : Nat) := by
  rw [clampTo_eq (by omega)]
  omega

/-- The Window group of a set, where its fields are numbers (R151). -/
theorem windowWord_of_values {m : List (Nat × Int)} {latency pre post tap : Nat} (h408 : itemValue m 408 = latency)
    (h409 : itemValue m 409 = pre) (h410 : itemValue m 410 = post) (h411 : itemValue m 411 = tap) :
    windowWord m
      = BitVec.ofNat 8 latency ++ (BitVec.ofNat 4 pre ++ (BitVec.ofNat 4 post ++ (BitVec.ofNat 4 tap ++ 0#12))) := by
  simp only [windowWord, windowAddress, valueAddress, h408, h409, h410, h411, BitVec.ofInt_natCast]

/-! ### WRITE_ITEM -/

/-- WRITE_ITEM stores and answers what WriteItem makes of the Settings Store (R158). -/
theorem exec_writeItem {s : State} (h : ControlReady s) {item : BitVec 11} {index : BitVec 16} {value : Word} {x : Settings}
    {reply : Reply} (hw : writeItemValue item.toNat index.toNat value s.settings = (x, reply)) :
    exec (.writeItem item index value) s = .next { s with settings := x, control := controlAnswering s (reply.words 1) } := by
  have hexec : exec (.writeItem item index value) s
      = .next (controlRequest 1 (writeItemEffect item.toNat index.toNat value) s) := rfl
  rw [hexec, controlRequest_of_ready h]
  simp only [writeItemEffect, hw]
  rfl

theorem exec_writeItem_of_window {s : State} (h : ControlReady s) {item : BitVec 11} (h51 : item.toNat = 51)
    (ht : s.settings.take = .none) (index : BitVec 16) (value : Word) :
    exec (.writeItem item index value) s
      = .next
          { s with
            settings := (writeWindowGroup value s.settings).1
            control := controlAnswering s ((writeWindowGroup value s.settings).2.words 1) } := by
  obtain ⟨r, hr, hnumber, hscope⟩ := exists_windowRow
  obtain ⟨a, ha⟩ := itemArgument_of_window hscope index.toNat
  exact exec_writeItem h (h51 ▸ hnumber ▸ writeItemValue_of_window hr ha ht hscope)

/-- Settles O48, row by row of R158: no item, no place, a take scheduled, the Window group, a value in range, an enumerated item,
a value clamped. -/
theorem writeItemAnswers : Obligations.WriteItemAnswers := by
  intro item index value s h refused stored table
  have htable : table = singleRows := by decide
  clear_value table
  subst htable
  refine ⟨fun h51 hno => ?_, fun row hrow hnumber => ?_, fun h51 => ?_⟩
  · have hnone : itemRow item.toNat = none := itemRow_eq_none_iff.mpr fun r hr hn => by
      by_cases hg : r.scope = .windowGroup
      · exact h51 (hn.symm.trans ((windowGroup_iff r hr).mp hg))
      · exact hno _ (mem_singleRows.mpr ⟨r, hr, hg, rfl⟩) hn
    exact exec_writeItem h (writeItemValue_of_no_row hnone _ _ _)
  · obtain ⟨r, hr, hg, rfl⟩ := mem_singleRows.mp hrow
    intro places enumerated low high a
    have hnum : item.toNat = r.number := hnumber.symm
    refine ⟨fun h1 hle => ?_, fun hplace => ?_⟩
    · exact exec_writeItem h (hnum ▸ writeItemValue_of_no_place hr _ _ (itemArgument_of_no_place h1 hle))
    · have ha : itemArgument r index.toNat = some a := by
        rw [itemArgument_of_place hplace, ← hnum]
      refine ⟨fun ht => ?_, fun ht => ⟨fun he hout => ?_, fun hlow hhigh => ?_, fun he hlow => ?_, fun he hhigh => ?_⟩⟩
      · exact exec_writeItem h (hnum ▸ writeItemValue_of_pending hr ha ht)
      · exact exec_writeItem h (hnum ▸ writeItemValue_of_enumerated hr ha ht hg hout he)
      · exact exec_writeItem h (hnum ▸ writeItemValue_of_inRange hr ha ht hg ⟨hlow, hhigh⟩)
      · exact exec_writeItem h
          (hnum ▸ writeItemValue_of_clamped hr ha ht hg (fun hin => absurd hin.1 (not_le.mpr hlow)) he (clampTo_of_lt hlow))
      · exact exec_writeItem h
          (hnum ▸ writeItemValue_of_clamped hr ha ht hg (fun hin => absurd hin.2 (not_le.mpr hhigh)) he
            (clampTo_of_gt (low_le_high r hr) hhigh))
  · obtain ⟨r, hr, hnumber, hscope⟩ := exists_windowRow
    obtain ⟨a, ha⟩ := itemArgument_of_window hscope index.toNat
    refine ⟨fun ht => exec_writeItem h (h51 ▸ hnumber ▸ writeItemValue_of_pending hr ha ht), fun ht hwf => ?_⟩
    intro latency pre post tap inRange
    obtain ⟨-, -, hpending, -⟩ := hwf
    have hvalue := itemValue_writeWindowGroup hpending value
    have h408 : itemValue (writeWindowGroup value s.settings).1.pending 408 = (max 16 (min latency 240) : Nat) :=
      (hvalue 408).trans (clampTo_latency latency)
    have h409 : itemValue (writeWindowGroup value s.settings).1.pending 409 = (min pre 8 : Nat) :=
      (hvalue 409).trans (clampTo_zero pre)
    have h410 : itemValue (writeWindowGroup value s.settings).1.pending 410 = (min post 8 : Nat) :=
      (hvalue 410).trans (clampTo_zero post)
    have h411 : itemValue (writeWindowGroup value s.settings).1.pending 411 = (min tap 11 : Nat) :=
      (hvalue 411).trans (clampTo_zero tap)
    refine ⟨_, exec_writeItem_of_window h h51 ht index value, rfl, ?_, h408, h409, h410, h411,
      fun x h8 h9 h10 h11 => ?_, fun hin => ?_, fun hout => ?_⟩
    · rw [writeWindowGroup_fst]
      rfl
    · exact (hvalue x).trans (by rw [if_neg h11, if_neg h10, if_neg h9, if_neg h8])
    · dsimp only
      rw [writeWindowGroup_snd, if_pos hin]
      rfl
    · dsimp only
      rw [writeWindowGroup_snd, if_neg hout, windowWord_of_values h408 h409 h410 h411]
      rfl

/-! ### ReadItem (R160) -/

theorem number_of_mem_catalogue : ∀ r ∈ catalogue,
    1 ≤ r.number ∧ r.number ≤ 23 ∨ 32 ≤ r.number ∧ r.number ≤ 34 ∨ 48 ≤ r.number ∧ r.number ≤ 72 := by
  decide

theorem exists_channelRow : ∀ n < 24, 1 ≤ n → ∃ r ∈ catalogue, r.number = n ∧ r.scope = .perChannel := by
  decide

theorem exists_towerRow : ∀ n < 35, 32 ≤ n → ∃ r ∈ catalogue, r.number = n ∧ r.scope = .perTower := by
  decide

theorem exists_globalRow : ∀ n < 73, 48 ≤ n → n ≠ 51 → ∃ r ∈ catalogue, r.number = n ∧ r.scope = .global := by
  decide

section Read

variable {r : ItemRow} (hr : r ∈ catalogue) {index : Nat} (wantsPending : Bool) (x : Settings)
include hr

theorem readItemReply_of_no_place (h : itemArgument r index = none) :
    readItemReply r.number index wantsPending x = .refused .range := by
  simp only [readItemReply, itemRow_of_mem r hr, h]

variable {a : Nat} (ha : itemArgument r index = some a)
include ha

theorem readItemReply_of_single (hg : r.scope ≠ .windowGroup) :
    readItemReply r.number index wantsPending x
      = .done [signedWord (itemValue (if wantsPending then x.pending else x.active) a)] := by
  simp only [readItemReply, itemRow_of_mem r hr, ha, if_neg hg]

theorem readItemReply_of_window (hg : r.scope = .windowGroup) :
    readItemReply r.number index wantsPending x = .done [windowWord (if wantsPending then x.pending else x.active)] := by
  simp only [readItemReply, itemRow_of_mem r hr, ha, if_pos hg]

end Read

theorem exec_readItem {s : State} (h : ControlReady s) (item : BitVec 11) (index : BitVec 3) (wantsPending : Bool) :
    exec (.readItem item index wantsPending) s
      = .next
          { s with
            control := controlAnswering s ((readItemReply item.toNat index.toNat wantsPending s.settings).words 2) } :=
  congrArg Host.Outcome.next (controlRequest_answer_of_ready h 2 _)

theorem exec_readTakeState {s : State} (h : ControlReady s) :
    exec .readTakeState s
      = .next { s with control := controlAnswering s ((Reply.done (takeStateWords s.settings)).words 5) } :=
  congrArg Host.Outcome.next (controlRequest_answer_of_ready h 5 _)

theorem exec_cancelTake {s : State} (h : ControlReady s) :
    exec .cancelTake s
      = .next
          { s with
            settings := { s.settings with take := .none }
            control := controlAnswering s ((Reply.done []).words 4) } :=
  congrArg Host.Outcome.next (controlRequest_of_ready h 4 _)

/-- Settles O49: READ_ITEM by the scope of its item, READ_TAKE_STATE and CANCEL_TAKE as they stand. -/
theorem settingsReadsAndCancel : Obligations.SettingsReadsAndCancel := by
  intro s h
  refine ⟨fun item index wantsPending => ?_, ⟨_, exec_readTakeState h, rfl, ?_⟩, _, exec_cancelTake h, rfl, rfl⟩
  · intro answered values refused value number
    have hanswered {reply : Reply} {ws : List Word}
        (hreply : readItemReply number index.toNat wantsPending s.settings = reply) (hws : reply.words 2 = ws) :
        answered ws := by
      subst hreply hws
      exact ⟨_, exec_readItem h item index wantsPending, rfl, rfl⟩
    have hvalue {r : ItemRow} (hr : r ∈ catalogue) (hnumber : r.number = number) (hg : r.scope ≠ .windowGroup)
        (hplace : r.places = 1 ∨ index.toNat < r.places) :
        value (8 * number + if r.places = 1 then 0 else index.toNat) :=
      hanswered (hnumber ▸ readItemReply_of_single hr wantsPending s.settings (itemArgument_of_place hplace) hg) rfl
    have hindex : index.toNat < 8 := index.isLt
    refine ⟨fun hno => ?_, fun hlow hhigh => ?_, fun hlow hhigh hplace => ?_, fun hlow hhigh hplace => ?_,
      fun hlow hhigh h51 => ?_, fun h51 => ?_⟩
    · have hnone : itemRow number = none := itemRow_eq_none_iff.mpr fun r hr hn => by
        have := number_of_mem_catalogue r hr
        omega
      exact hanswered (by rw [readItemReply, hnone]) rfl
    · obtain ⟨r, hr, hnumber, hscope⟩ := exists_channelRow number (by omega) hlow
      simpa [ItemRow.places, hscope] using hvalue hr hnumber (by simp [hscope]) (by simpa [ItemRow.places, hscope])
    · obtain ⟨r, hr, hnumber, hscope⟩ := exists_towerRow number (by omega) hlow
      simpa [ItemRow.places, hscope] using hvalue hr hnumber (by simp [hscope]) (by simpa [ItemRow.places, hscope])
    · obtain ⟨r, hr, hnumber, hscope⟩ := exists_towerRow number (by omega) hlow
      have hnone : itemArgument r index.toNat = none :=
        itemArgument_of_no_place (by simp [ItemRow.places, hscope]) (by simpa [ItemRow.places, hscope])
      exact hanswered (hnumber ▸ readItemReply_of_no_place hr wantsPending s.settings hnone) rfl
    · obtain ⟨r, hr, hnumber, hscope⟩ := exists_globalRow number (by omega) hlow h51
      simpa [ItemRow.places, hscope] using hvalue hr hnumber (by simp [hscope]) (by simp [ItemRow.places, hscope])
    · obtain ⟨r, hr, hnumber, hscope⟩ := exists_windowRow
      obtain ⟨a, ha⟩ := itemArgument_of_window hscope index.toNat
      exact hanswered (h51 ▸ hnumber ▸ readItemReply_of_window hr wantsPending s.settings ha hscope) rfl
  · by_cases htake : s.settings.take = .scheduled
    · simp only [takeStateWords, if_pos htake]
      rfl
    · simp only [takeStateWords, if_neg htake]
      rfl

/-! ### Take (R161, R162) -/

/-- Tower assignment, Turn length and the Window group are run-locked, and nothing else is (R162). -/
theorem runLocked_of_mem : ∀ r ∈ catalogue, (r.runLocked = true ↔ r.number = 48 ∨ r.number = 51 ∨ r.number = 2) := by
  decide

theorem isRunLocked_iff (item : Nat) : isRunLocked item = true ↔ item / 8 = 48 ∨ item / 8 = 51 ∨ item / 8 = 2 := by
  unfold isRunLocked
  cases hrow : itemRow (item / 8) with
  | some r =>
    obtain ⟨hr, hnumber⟩ := itemRow_eq_some_iff.mp hrow
    rw [← hnumber]
    exact runLocked_of_mem r hr
  | none =>
    have hno := itemRow_eq_none_iff.mp hrow
    have hlocked : ∀ n ∈ [48, 51, 2], ∃ r ∈ catalogue, r.number = n := by decide
    simp only [Bool.false_eq_true, false_iff]
    intro hn
    obtain ⟨r, hr, hnumber⟩ := hlocked (item / 8) (by simpa using hn)
    exact hno r hr hnumber

theorem firstFailing_eq_some {m : List (Nat × Int)} {k : Nat} (hk : (consistencyConditions m)[k]? = some false)
    (hbefore : ∀ j, j < k → (consistencyConditions m)[j]? = some true) : firstFailing m = some (k + 1) := by
  obtain ⟨hlt, hfalse⟩ := List.getElem?_eq_some_iff.mp hk
  have hfirst : (consistencyConditions m).findIdx? (fun b => !b) = some k := by
    rw [List.findIdx?_eq_some_iff_getElem]
    refine ⟨hlt, by simp [hfalse], fun j hj => ?_⟩
    obtain ⟨_, htrue⟩ := List.getElem?_eq_some_iff.mp (hbefore j hj)
    simp [htrue]
  rw [firstFailing, hfirst]
  rfl

theorem firstFailing_eq_none {m : List (Nat × Int)} (h : ∀ k, k < 7 → (consistencyConditions m)[k]? = some true) :
    firstFailing m = none := by
  have hnone : (consistencyConditions m).findIdx? (fun b => !b) = none := by
    rw [List.findIdx?_eq_none_iff]
    intro b hb
    obtain ⟨k, hlt, rfl⟩ := List.getElem_of_mem hb
    obtain ⟨_, htrue⟩ := List.getElem?_eq_some_iff.mp (h k hlt)
    simp [htrue]
  rw [firstFailing, hnone]
  rfl

theorem takeReply_of_scheduled {s : State} (h : s.settings.take = .scheduled) : takeReply s = .refused .takePending :=
  if_pos h

section TakeReply

variable {s : State} (ht : s.settings.take = .none)
include ht

theorem takeReply_of_untouched (h : s.settings.touched = []) : takeReply s = .done [] := by
  simp only [takeReply, ht, if_pos h, reduceCtorEq, if_false]

variable (hne : s.settings.touched ≠ [])
include hne

theorem takeReply_of_locked (h : s.settings.touched.any isRunLocked = true ∧ s.run.state ≠ .idle) :
    takeReply s = .refused .runLocked := by
  simp only [takeReply, ht, if_neg hne, if_pos h, reduceCtorEq, if_false]

variable (hfree : ¬ (s.settings.touched.any isRunLocked = true ∧ s.run.state ≠ .idle))
include hfree

theorem takeReply_of_failing {k : Nat} (hk : firstFailing (producedSet s.settings) = some k) :
    takeReply s = .invalidSet k := by
  simp only [takeReply, ht, if_neg hne, if_neg hfree, hk, reduceCtorEq, if_false]

theorem takeReply_of_consistent (hk : firstFailing (producedSet s.settings) = none) : takeReply s = .scheduled := by
  simp only [takeReply, ht, if_neg hne, if_neg hfree, hk, reduceCtorEq, if_false]

end TakeReply

theorem exec_take {s : State} (h : ControlReady s) :
    exec .take s = .next ((scheduleTake s).setControl
      ((scheduleTake s).control.respond (isForming (scheduleTake s)) (.words ((takeReply s).words 3)))) :=
  congrArg Host.Outcome.next (controlRequest_of_ready h 3 _)

theorem exec_take_of_not_scheduled {s : State} (h : ControlReady s) {reply : Reply} (hr : takeReply s = reply)
    (hne : reply ≠ .scheduled) : exec .take s = .next { s with control := controlAnswering s (reply.words 3) } := by
  subst hr
  rw [exec_take h, scheduleTake, if_neg hne]
  rfl

theorem exec_take_of_scheduled {s : State} (h : ControlReady s) (hr : takeReply s = .scheduled) :
    exec .take s = .next
      { s with
        settings := { s.settings with take := .scheduled }
        control := controlAnswering s (Reply.scheduled.words 3) } := by
  rw [exec_take h, scheduleTake, if_pos hr, hr]
  rfl

/-- Settles O50, row by row of R162. -/
theorem takeAnswers : Obligations.TakeAnswers := by
  intro s h answered locked v conditions
  have hlocked : s.settings.touched.any isRunLocked = true ↔ locked := by
    simp only [List.any_eq_true, isRunLocked_iff, locked]
  have hconditions : conditions = consistencyConditions (producedSet s.settings) := rfl
  clear_value conditions
  subst hconditions
  have hanswered {reply : Reply} {w : Word} (hr : takeReply s = reply) (hne : reply ≠ .scheduled)
      (hw : reply.words 3 = [w]) : answered w :=
    (exec_take_of_not_scheduled h hr hne).trans (by rw [hw])
  refine ⟨fun hwf => ?_, fun ht => ?_, fun ht hempty => ?_, fun ht hl hrun => ?_, fun ht hne hfree => ?_⟩
  · obtain ⟨-, -, -, hactive, -⟩ := hwf
    exact itemValue_producedSet hactive
  · exact hanswered (takeReply_of_scheduled ht) nofun rfl
  · exact hanswered (takeReply_of_untouched ht hempty) nofun rfl
  · have hne : s.settings.touched ≠ [] := by
      obtain ⟨item, hitem, -⟩ := hl
      exact List.ne_nil_of_mem hitem
    exact hanswered (takeReply_of_locked ht hne ⟨hlocked.mpr hl, hrun⟩) nofun rfl
  · have hunlocked : ¬ (s.settings.touched.any isRunLocked = true ∧ s.run.state ≠ .idle) := fun hno =>
      hfree.elim (absurd (hlocked.mp hno.1)) hno.2
    exact ⟨fun k _ hfalse hbefore =>
        hanswered (takeReply_of_failing ht hne hunlocked (firstFailing_eq_some hfalse hbefore)) nofun rfl,
      fun hall => exec_take_of_scheduled h (takeReply_of_consistent ht hne hunlocked (firstFailing_eq_none hall))⟩

end Sys2Proof.Machine
end

section
/-! The Settings Store at a turn boundary: the take, the installs, the generation (R165, R166, R175, R176). -/

namespace Sys2Proof.Machine

/-! ### What a boundary offers at one place of the tracker -/

theorem pedestalAddress_injective {ch k : Channel} {g e : Gain} (h : pedestalAddress ch g = pedestalAddress k e) :
    ch = k ∧ g = e := by
  have hch := ch.isLt
  have hk := k.isLt
  cases g <;> cases e <;> simp only [pedestalAddress, valueAddress] at h
  · exact ⟨Fin.ext (by omega), rfl⟩
  · omega
  · omega
  · exact ⟨Fin.ext (by omega), rfl⟩

theorem pedestalAddress_ne_trackLimit (ch : Channel) (g : Gain) : valueAddress 64 0 ≠ pedestalAddress ch g := by
  cases g <;> simp only [pedestalAddress, valueAddress] <;> omega

theorem withinTrackLimit_iff (s : State) (ch : Channel) (g : Gain) (c : Nat) :
    withinTrackLimit s ch g c = true ↔ |(c : Int) - activePedestal s ch g| ≤ trackLimit s := by
  rw [withinTrackLimit, decide_eq_true_iff, abs_le]
  omega

/-- What decides the offer of a candidate: its accumulator, the active pedestal of its place, the active Track limit (R175). -/
structure Offer where
  accumulator : Accumulator
  pedestal : Int
  limit : Int

/-- The offer a state makes at a channel and gain. -/
def State.offer (s : State) (p : Channel × Gain) : Offer :=
  ⟨accumulator s p.1 p.2, activePedestal s p.1 p.2, trackLimit s⟩

/-- The pedestal after a candidate is offered: the candidate within the Track limit, as it was otherwise (R175). -/
def Offer.installed (o : Offer) : Int :=
  match o.accumulator.held with
  | none => o.pedestal
  | some c => if |(c : Int) - o.pedestal| ≤ o.limit then (c : Int) else o.pedestal

theorem Offer.installed_of_none {o : Offer} (h : o.accumulator.held = none) : o.installed = o.pedestal := by
  simp only [installed, h]

theorem Offer.installed_of_within {o : Offer} {c : Nat} (h : o.accumulator.held = some c)
    (hw : |(c : Int) - o.pedestal| ≤ o.limit) : o.installed = c := by
  simp only [installed, h, if_pos hw]

theorem Offer.installed_of_beyond {o : Offer} {c : Nat} (h : o.accumulator.held = some c)
    (hw : ¬ |(c : Int) - o.pedestal| ≤ o.limit) : o.installed = o.pedestal := by
  simp only [installed, h, if_neg hw]

/-- What is left once a candidate has been offered: it is no longer held (R175). -/
def Offer.settled (o : Offer) : Offer := ⟨{ o.accumulator with held := none }, o.installed, o.limit⟩

/-- The candidate offered lies beyond the Track limit (R175). -/
def Offer.Refused (o : Offer) : Prop := ∃ c ∈ o.accumulator.held, o.limit < |(c : Int) - o.pedestal|

theorem Offer.settled_settled (o : Offer) : o.settled.settled = o.settled := rfl

theorem Offer.not_refused_settled (o : Offer) : ¬ o.settled.Refused := by
  rintro ⟨c, hc, -⟩
  cases hc

/-! ### One offer (R175) -/

theorem installCandidate_of_none {ch : Channel} {g : Gain} {s : State} (h : (accumulator s ch g).held = none) :
    installCandidate ch g s = s := by
  simp only [installCandidate, h]

theorem installCandidate_of_within {ch : Channel} {g : Gain} {s : State} {c : Nat} (h : (accumulator s ch g).held = some c)
    (hw : |(c : Int) - activePedestal s ch g| ≤ trackLimit s) :
    installCandidate ch g s
      = (setAccumulator s ch g { accumulator s ch g with held := none }).setSettings
          { s.settings with active := setItemValue s.settings.active (pedestalAddress ch g) (c : Int) } := by
  simp only [installCandidate, h, if_pos ((withinTrackLimit_iff s ch g c).mpr hw)]
  rfl

theorem installCandidate_of_beyond {ch : Channel} {g : Gain} {s : State} {c : Nat} (h : (accumulator s ch g).held = some c)
    (hw : ¬ |(c : Int) - activePedestal s ch g| ≤ trackLimit s) :
    installCandidate ch g s = report .pedestalJump (setAccumulator s ch g { accumulator s ch g with held := none }) := by
  simp only [installCandidate, h, if_neg (mt (withinTrackLimit_iff s ch g c).mp hw)]

/-- The candidate offered is no longer held, and no other accumulator changes (R175). -/
theorem accumulator_installCandidate (ch k : Channel) (g e : Gain) (s : State) :
    accumulator (installCandidate ch g s) k e
      = if k = ch ∧ e = g then { accumulator s k e with held := none } else accumulator s k e := by
  have hset : accumulator (setAccumulator s ch g { accumulator s ch g with held := none }) k e
      = if k = ch ∧ e = g then { accumulator s k e with held := none } else accumulator s k e := by
    rw [accumulator_setAccumulator]
    refine ite_congr rfl ?_ fun _ => rfl
    rintro ⟨rfl, rfl⟩
    rfl
  cases hheld : (accumulator s ch g).held with
  | none =>
    rw [installCandidate_of_none hheld]
    split
    · next heq =>
      obtain ⟨rfl, rfl⟩ := heq
      rw [← hheld]
    · rfl
  | some c =>
    by_cases hw : |(c : Int) - activePedestal s ch g| ≤ trackLimit s
    · rw [installCandidate_of_within hheld hw]
      exact hset
    · rw [installCandidate_of_beyond hheld hw]
      exact hset

/-- The candidate offered becomes the pedestal where it lies within the Track limit, and no other pedestal changes (R175). -/
theorem activePedestal_installCandidate {s : State} (hwf : Memory.wf catalogueDefault s.settings.active = true)
    (ch k : Channel) (g e : Gain) :
    activePedestal (installCandidate ch g s) k e
      = if k = ch ∧ e = g then (s.offer (k, e)).installed else activePedestal s k e := by
  split
  · next heq =>
    obtain ⟨rfl, rfl⟩ := heq
    cases hheld : (accumulator s k e).held with
    | none =>
      rw [installCandidate_of_none hheld, Offer.installed_of_none (o := s.offer (k, e)) hheld]
      rfl
    | some c =>
      by_cases hw : |(c : Int) - activePedestal s k e| ≤ trackLimit s
      · rw [installCandidate_of_within hheld hw, Offer.installed_of_within (o := s.offer (k, e)) hheld hw]
        exact (itemValue_setItemValue hwf _ _ _).trans (if_pos rfl)
      · rw [installCandidate_of_beyond hheld hw, Offer.installed_of_beyond (o := s.offer (k, e)) hheld hw]
        rfl
  · next hne => exact installCandidate_itemValue ch g s (mt pedestalAddress_injective hne)

/-- An offer settles its own place and leaves every other as it was (R175). -/
theorem offer_installCandidate {s : State} (hwf : Memory.wf catalogueDefault s.settings.active = true)
    (b p : Channel × Gain) :
    (installCandidate b.1 b.2 s).offer p = if p = b then (s.offer p).settled else s.offer p := by
  have hlimit : trackLimit (installCandidate b.1 b.2 s) = trackLimit s :=
    installCandidate_itemValue b.1 b.2 s (pedestalAddress_ne_trackLimit b.1 b.2)
  rw [State.offer, accumulator_installCandidate, activePedestal_installCandidate hwf, hlimit]
  simp only [Prod.ext_iff (x := p) (y := b)]
  split <;> rfl

/-- The PedestalJump flag after an offer (R175, R181). -/
theorem installCandidate_flag (b : Channel × Gain) (s : State) :
    (installCandidate b.1 b.2 s).monitor.flags.getLsbD 6 = true
      ↔ s.monitor.flags.getLsbD 6 = true ∨ (s.offer b).Refused := by
  have hrefused {c : Nat} (hheld : (accumulator s b.1 b.2).held = some c) :
      (s.offer b).Refused ↔ ¬ |(c : Int) - activePedestal s b.1 b.2| ≤ trackLimit s := by
    simp only [Offer.Refused, State.offer, hheld, Option.mem_some_iff, exists_eq_left', not_le]
  cases hheld : (accumulator s b.1 b.2).held with
  | none =>
    rw [installCandidate_of_none hheld]
    simp [Offer.Refused, State.offer, hheld]
  | some c =>
    rw [hrefused hheld]
    by_cases hw : |(c : Int) - activePedestal s b.1 b.2| ≤ trackLimit s
    · rw [installCandidate_of_within hheld hw]
      simp [hw]
    · rw [installCandidate_of_beyond hheld hw]
      have hflag : (s.monitor.occurrence .pedestalJump).flags.getLsbD 6 = true :=
        (Monitor.occurrence_flag s.monitor .pedestalJump .pedestalJump).trans (by simp)
      exact iff_of_true hflag (.inr hw)

/-! ### The offers of a boundary (R165, R175) -/

/-- Offers at some places settle those places and leave the others as they were. -/
theorem offer_foldl_installCandidate (l : List (Channel × Gain)) {s : State} (h : s.settings.Canonical)
    (p : Channel × Gain) :
    (l.foldl (fun t b => installCandidate b.1 b.2 t) s).offer p = if p ∈ l then (s.offer p).settled else s.offer p := by
  induction l generalizing s with
  | nil => simp
  | cons b l ih =>
    rw [List.foldl_cons, ih (settingsCanonical_kept.installCandidate b.1 b.2 s h), offer_installCandidate h.2]
    by_cases hb : p = b <;> by_cases hl : p ∈ l <;> simp [hb, hl, Offer.settled_settled]

/-- Offers at some places set the PedestalJump flag where one of them is refused (R175). -/
theorem flag_foldl_installCandidate (l : List (Channel × Gain)) {s : State} (h : s.settings.Canonical) :
    (l.foldl (fun t b => installCandidate b.1 b.2 t) s).monitor.flags.getLsbD 6 = true
      ↔ s.monitor.flags.getLsbD 6 = true ∨ ∃ b ∈ l, (s.offer b).Refused := by
  induction l generalizing s with
  | nil => simp
  | cons a l ih =>
    rw [List.foldl_cons, ih (settingsCanonical_kept.installCandidate a.1 a.2 s h), installCandidate_flag, or_assoc]
    refine or_congr_right ?_
    simp only [List.exists_mem_cons_iff, offer_installCandidate h.2]
    constructor
    · rintro (ha | ⟨b, hb, hr⟩)
      · exact .inl ha
      · split at hr
        · exact absurd hr (Offer.not_refused_settled _)
        · exact .inr ⟨b, hb, hr⟩
    · rintro (ha | ⟨b, hb, hr⟩)
      · exact .inl ha
      · by_cases hba : b = a
        · exact .inl (hba ▸ hr)
        · exact .inr ⟨b, hb, by rwa [if_neg hba]⟩

theorem offer_installCandidates {s : State} (h : s.settings.Canonical) (p : Channel × Gain) :
    (installCandidates s).offer p = (s.offer p).settled :=
  (offer_foldl_installCandidate trackerPlaces h p).trans (if_pos (mem_trackerPlaces p.1 p.2))

theorem installCandidates_flag {s : State} (h : s.settings.Canonical) :
    (installCandidates s).monitor.flags.getLsbD 6 = true
      ↔ s.monitor.flags.getLsbD 6 = true ∨ ∃ ch g, (s.offer (ch, g)).Refused := by
  refine (flag_foldl_installCandidate trackerPlaces h).trans (or_congr_right ?_)
  exact ⟨fun ⟨b, _, hr⟩ => ⟨b.1, b.2, hr⟩, fun ⟨ch, g, hr⟩ => ⟨(ch, g), mem_trackerPlaces ch g, hr⟩⟩

/-- The installs of a boundary change the Active Set alone of the Settings Store (R175). -/
theorem installCandidates_settings (s : State) :
    (installCandidates s).settings = { s.settings with active := (installCandidates s).settings.active } := by
  have hrest : { (installCandidates s).settings with active := [] } = { s.settings with active := [] } := by
    refine foldl_frame (fun t => { t.settings with active := [] }) _ (fun t (p : Channel × Gain) => ?_) trackerPlaces s
    cases hheld : (accumulator t p.1 p.2).held with
    | none => rw [installCandidate_of_none hheld]
    | some c =>
      by_cases hw : |(c : Int) - activePedestal t p.1 p.2| ≤ trackLimit t
      · rw [installCandidate_of_within hheld hw]
        rfl
      · rw [installCandidate_of_beyond hheld hw]
        rfl
  exact congrArg (fun x : Settings => { x with active := (installCandidates s).settings.active }) hrest

/-! ### The take (R165, R176) -/

/-- A take turns the Tracking of a channel Off (R176). -/
def switchedOffByTake (s : State) (ch : Channel) : Bool :=
  decide (itemValue s.settings.active (valueAddress 22 ch.val) = 1 ∧
    itemValue (producedSet s.settings) (valueAddress 22 ch.val) ≠ 1)

/-- A take clears the accumulator of a channel and gain: it carries the pedestal, or turns Tracking Off (R176). -/
def clearedByTake (s : State) (ch : Channel) (g : Gain) : Bool :=
  s.settings.touched.contains (pedestalAddress ch g) || switchedOffByTake s ch

/-- A take restarts the accumulators of a channel: it changes the Channel mode while Tracking is On (R176). -/
def restartedByTake (s : State) (ch : Channel) : Bool :=
  decide (itemValue s.settings.active (valueAddress 22 ch.val) = 1 ∧
    itemValue (producedSet s.settings) (valueAddress 22 ch.val) = 1 ∧
    itemValue (producedSet s.settings) (valueAddress 1 ch.val) ≠ itemValue s.settings.active (valueAddress 1 ch.val))

/-- A take leaves an accumulator cleared, restarted or as it was (R176). -/
theorem get_trackerAfterTake (carried : Gain → Bool) (off mode : Bool) (t : TrackerChannel) (g : Gain) :
    (trackerAfterTake (carried .high) (carried .low) off mode t).get g
      = if carried g || off then Accumulator.clear else if mode then (t.get g).restarted else t.get g := by
  cases off with
  | true => cases g <;> simp [trackerAfterTake, TrackerChannel.get, TrackerChannel.reset]
  | false => cases g <;> simp [trackerAfterTake, TrackerChannel.get]

theorem get_trackerAtTake (s : State) (ch : Channel) :
    (trackerAtTake s (producedSet s.settings)).get ch
      = trackerAfterTake (s.settings.touched.contains (pedestalAddress ch .high))
          (s.settings.touched.contains (pedestalAddress ch .low)) (switchedOffByTake s ch) (restartedByTake s ch)
          (s.tracker.get ch) := by
  have hoff : (trackingOn s ch && !(itemValue (producedSet s.settings) (valueAddress 22 ch.val) == 1))
      = switchedOffByTake s ch := by
    rw [Bool.eq_iff_iff]
    simp [trackingOn, activeOn, active, switchedOffByTake]
  have hmode : (trackingOn s ch && (itemValue (producedSet s.settings) (valueAddress 22 ch.val) == 1) &&
      (itemValue (producedSet s.settings) (valueAddress 1 ch.val) != active s 1 ch.val)) = restartedByTake s ch := by
    rw [Bool.eq_iff_iff]
    simp [trackingOn, activeOn, active, restartedByTake, and_assoc]
  rw [trackerAtTake, Oct.get_ofFn]
  dsimp only
  rw [hoff, hmode]

theorem applyTake_of_none {s : State} (h : s.settings.take = .none) : applyTake s = s := by
  unfold applyTake
  rw [if_neg (by simp [h])]

section Take

variable {s : State} (h : s.settings.take = .scheduled)
include h

theorem applyTake_settings :
    (applyTake s).settings
      = { s.settings with active := producedSet s.settings, touched := [], take := .none } := by
  unfold applyTake
  rw [if_pos h]
  rfl

theorem accumulator_applyTake (ch : Channel) (g : Gain) :
    accumulator (applyTake s) ch g
      = if clearedByTake s ch g then Accumulator.clear
        else if restartedByTake s ch then (accumulator s ch g).restarted else accumulator s ch g := by
  have htracker : (applyTake s).tracker = trackerAtTake s (producedSet s.settings) := by
    unfold applyTake
    rw [if_pos h]
    rfl
  rw [accumulator, htracker, get_trackerAtTake]
  exact get_trackerAfterTake (fun e => s.settings.touched.contains (pedestalAddress ch e)) _ _ _ g

/-- What a boundary with a take offers at a place: what the take has left there, against the new Track limit (R165, R175). -/
theorem offer_applyTake (ch : Channel) (g : Gain) :
    (applyTake s).offer (ch, g)
      = ⟨if clearedByTake s ch g then Accumulator.clear
          else if restartedByTake s ch then (accumulator s ch g).restarted else accumulator s ch g,
         itemValue (producedSet s.settings) (pedestalAddress ch g),
         itemValue (producedSet s.settings) (valueAddress 64 0)⟩ := by
  rw [State.offer, accumulator_applyTake h, activePedestal, trackLimit, active, applyTake_settings h]

theorem offer_applyTake_settled (ch : Channel) (g : Gain) :
    ((applyTake s).offer (ch, g)).settled.accumulator
      = if clearedByTake s ch g || restartedByTake s ch then ⟨0, 0, none, none⟩
        else { accumulator s ch g with held := none } := by
  rw [offer_applyTake h]
  cases clearedByTake s ch g <;> cases restartedByTake s ch <;> rfl

/-- The pedestal after a take and the offer of what it has left held (R165, R175). -/
theorem offer_applyTake_installed (ch : Channel) (g : Gain) :
    ((applyTake s).offer (ch, g)).installed
      = Offer.installed
          ⟨{ accumulator s ch g with held := if clearedByTake s ch g then none else (accumulator s ch g).held },
           itemValue (producedSet s.settings) (pedestalAddress ch g),
           itemValue (producedSet s.settings) (valueAddress 64 0)⟩ := by
  rw [offer_applyTake h]
  cases clearedByTake s ch g <;> cases restartedByTake s ch <;> rfl

/-- A candidate is refused after a take that has not cleared it, against the new pedestal and Track limit (R165, R175). -/
theorem offer_applyTake_refused (ch : Channel) (g : Gain) :
    ((applyTake s).offer (ch, g)).Refused
      ↔ ∃ c ∈ (accumulator s ch g).held, clearedByTake s ch g = false ∧
          itemValue (producedSet s.settings) (valueAddress 64 0)
            < |(c : Int) - itemValue (producedSet s.settings) (pedestalAddress ch g)| := by
  rw [offer_applyTake h]
  cases clearedByTake s ch g <;> cases restartedByTake s ch <;>
    simp [Offer.Refused, Accumulator.clear, Accumulator.restarted]

end Take

theorem clearedByTake_eq_false_iff (s : State) (ch : Channel) (g : Gain) :
    clearedByTake s ch g = false
      ↔ pedestalAddress ch g ∉ s.settings.touched ∧
        ¬ (itemValue s.settings.active (valueAddress 22 ch.val) = 1 ∧
          itemValue (producedSet s.settings) (valueAddress 22 ch.val) ≠ 1) := by
  rw [clearedByTake, switchedOffByTake, Bool.or_eq_false_iff, decide_eq_false_iff_not, ← Bool.not_eq_true,
    List.contains_iff_mem]

/-! ### The generation (R165, R166) -/

theorem countGeneration_rest (m : List (Nat × Int)) (s : State) :
    (countGeneration m s).tracker = s.tracker ∧ (countGeneration m s).monitor = s.monitor ∧
      (countGeneration m s).settings
        = { s.settings with
            generation := if s.settings.active = m then s.settings.generation else s.settings.generation + 1 } := by
  unfold countGeneration
  split
  · exact ⟨rfl, rfl, rfl⟩
  · exact ⟨rfl, rfl, rfl⟩

/-! ### The steps of a boundary (R165) -/

theorem State.offer_congr {s t : State} (htracker : t.tracker = s.tracker) (hactive : t.settings.active = s.settings.active)
    (p : Channel × Gain) : t.offer p = s.offer p := by
  simp only [State.offer, accumulator, activePedestal, trackLimit, Machine.active, htracker, hactive]

theorem offer_settingsBoundary {s : State} (h : s.settings.Canonical) (p : Channel × Gain) :
    (settingsBoundary s).offer p = ((applyTake s).offer p).settled := by
  obtain ⟨htracker, -, -⟩ := countGeneration_rest s.settings.active (installCandidates (applyTake s))
  rw [settingsBoundary, State.offer_congr htracker (countGeneration_active _ _),
    offer_installCandidates (settingsCanonical_kept.applyTake s h)]

theorem settingsBoundary_flag {s : State} (h : s.settings.Canonical) :
    (settingsBoundary s).monitor.flags.getLsbD 6 = true
      ↔ s.monitor.flags.getLsbD 6 = true ∨ ∃ ch g, ((applyTake s).offer (ch, g)).Refused := by
  obtain ⟨-, hmonitor, -⟩ := countGeneration_rest s.settings.active (installCandidates (applyTake s))
  have htake : (applyTake s).monitor = s.monitor := by simp
  rw [settingsBoundary, hmonitor, installCandidates_flag (settingsCanonical_kept.applyTake s h), htake]

theorem settingsBoundary_pending (s : State) : (settingsBoundary s).settings.pending = s.settings.pending := by
  obtain ⟨-, -, hsettings⟩ := countGeneration_rest s.settings.active (installCandidates (applyTake s))
  rw [settingsBoundary, hsettings, installCandidates_settings]
  unfold applyTake
  split <;> rfl

theorem settingsBoundary_touched (s : State) : (settingsBoundary s).settings.touched = (applyTake s).settings.touched := by
  obtain ⟨-, -, hsettings⟩ := countGeneration_rest s.settings.active (installCandidates (applyTake s))
  rw [settingsBoundary, hsettings, installCandidates_settings]

theorem settingsBoundary_itemValue (s : State) {a : Nat} (h3 : a / 8 ≠ 3) (h4 : a / 8 ≠ 4) :
    itemValue (settingsBoundary s).settings.active a = itemValue (applyTake s).settings.active a := by
  rw [settingsBoundary, countGeneration_active, installCandidates_itemValue _ h3 h4]

/-- The generation counts a boundary that changes the Active Set, and no other (R165, R166). -/
theorem settingsBoundary_generation (s : State) :
    (settingsBoundary s).settings.generation
      = if (settingsBoundary s).settings.active = s.settings.active then s.settings.generation
        else s.settings.generation + 1 := by
  have hgeneration : (installCandidates (applyTake s)).settings.generation = s.settings.generation := by
    rw [installCandidates_settings]
    unfold applyTake
    split <;> rfl
  obtain ⟨-, -, hsettings⟩ := countGeneration_rest s.settings.active (installCandidates (applyTake s))
  rw [settingsBoundary, hsettings, hgeneration]

/-- A canonical Active Set is the same after a boundary when each of its values is (log 16). -/
theorem settingsBoundary_active_eq_iff {s : State} (h : s.settings.Canonical) :
    (settingsBoundary s).settings.active = s.settings.active
      ↔ ∀ a, itemValue (settingsBoundary s).settings.active a = itemValue s.settings.active a :=
  ⟨fun he a => by rw [he], fun he => Memory.ext_of_wf (settingsCanonical_kept.settingsBoundary h).2 h.2 he⟩

/-! ### TURN_BOUNDARY where a boundary is due -/

/-- The boundary that is due is taken; settings, tracker and monitor are those of the Settings Store's steps (R165). -/
theorem exec_turnBoundary_of_due {s : State} {p : Position} {f : Forming} (hp : s.timer.position = some p)
    (hf : s.timer.forming = some f) (hn : f.numberFormed = true) (hdue : f.boundaryDue = true) :
    ∃ t, exec .turnBoundary s = .next t ∧ t.settings = (settingsBoundary s).settings ∧
      t.tracker = (settingsBoundary s).tracker ∧ t.monitor = (settingsBoundary s).monitor := by
  have hformed : formNumber (openCrossing s) = s := by
    rw [openCrossing_of_forming (by simp [isForming, hf]), formNumber_of_formed hp hf hn]
  have hboundary : boundaryDue s = true := by simp [boundaryDue, hf, hdue]
  refine ⟨takeBoundary s, by rw [exec_turnBoundary, hformed, if_pos hboundary], ?_, ?_, ?_⟩ <;>
    simp [takeBoundary_of_due hp hf hdue]

theorem StoresCanonical.settings {s : State} (h : StoresCanonical s) : s.settings.Canonical := by
  obtain ⟨-, -, hpending, hactive, -⟩ := h
  exact ⟨hpending, hactive⟩

/-- A place of item 3 or 4 is the pedestal of a channel and gain (R156). -/
theorem exists_pedestalAddress {a : Nat} (h : a / 8 = 3 ∨ a / 8 = 4) : ∃ ch g, a = pedestalAddress ch g := by
  rcases h with h | h
  · exact ⟨⟨a % 8, by omega⟩, .high, by simp only [pedestalAddress, valueAddress]; omega⟩
  · exact ⟨⟨a % 8, by omega⟩, .low, by simp only [pedestalAddress, valueAddress]; omega⟩

/-- Settles O29: without a take the boundary is its installs, place by place. -/
theorem boundaryInstallsCandidates : Obligations.BoundaryInstallsCandidates := by
  intro s p f hp hf hn hdue hstores htake
  have hcanonical := StoresCanonical.settings hstores
  have hsame := applyTake_of_none htake
  obtain ⟨t, hexec, hsettings, htracker, hmonitor⟩ := exec_turnBoundary_of_due hp hf hn hdue
  have hoffer (ch : Channel) (g : Gain) : t.offer (ch, g) = (s.offer (ch, g)).settled := by
    rw [State.offer_congr htracker (by rw [hsettings]), offer_settingsBoundary hcanonical, hsame]
  have hother (a : Nat) (h3 : a / 8 ≠ 3) (h4 : a / 8 ≠ 4) :
      itemValue t.settings.active a = itemValue s.settings.active a := by
    rw [hsettings, settingsBoundary_itemValue s h3 h4, hsame]
  have hactive : t.settings.active = s.settings.active ↔ ∀ ch g, activePedestal t ch g = activePedestal s ch g := by
    rw [hsettings, settingsBoundary_active_eq_iff hcanonical, ← hsettings]
    refine ⟨fun h ch g => h _, fun h a => ?_⟩
    by_cases ha : a / 8 = 3 ∨ a / 8 = 4
    · obtain ⟨ch, g, rfl⟩ := exists_pedestalAddress ha
      exact h ch g
    · rw [not_or] at ha
      exact hother a ha.1 ha.2
  have hgeneration := settingsBoundary_generation s
  rw [← hsettings] at hgeneration
  refine ⟨t, hexec, ?_, ?_, ?_, fun ch g => ⟨?_, ?_⟩, hother, ?_, fun h => ?_, fun ⟨ch, g, h⟩ => ?_⟩
  · rw [hsettings, settingsBoundary_pending]
  · rw [hsettings, settingsBoundary_touched, hsame]
  · rw [hsettings, settingsBoundary_take]
  · exact congrArg Offer.accumulator (hoffer ch g)
  · exact congrArg Offer.pedestal (hoffer ch g)
  · rw [hmonitor, settingsBoundary_flag hcanonical, hsame]
    rfl
  · rw [hgeneration, if_pos (hactive.mpr h)]
  · rw [hgeneration, if_neg fun he => h (hactive.mp he ch g)]

/-- Settles O28: the boundary puts the set the take produces in force and then offers what the take has left, place by place. -/
theorem boundaryAppliesTake : Obligations.BoundaryAppliesTake := by
  intro s p f hp hf hn hdue hstores htake
  have hcanonical := StoresCanonical.settings hstores
  have htaken := applyTake_settings htake
  obtain ⟨t, hexec, hsettings, htracker, hmonitor⟩ := exec_turnBoundary_of_due hp hf hn hdue
  have hoffer (ch : Channel) (g : Gain) : t.offer (ch, g) = ((applyTake s).offer (ch, g)).settled := by
    rw [State.offer_congr htracker (by rw [hsettings]), offer_settingsBoundary hcanonical]
  have hactive := settingsBoundary_active_eq_iff hcanonical
  have hgeneration := settingsBoundary_generation s
  rw [← hsettings] at hactive hgeneration
  refine ⟨t, hexec, ?_, ?_, ?_, fun a h3 h4 => ?_, fun h => ?_, fun ⟨a, h⟩ => ?_, ?_⟩
  · rw [hsettings, settingsBoundary_take]
  · rw [hsettings, settingsBoundary_touched, htaken]
  · rw [hsettings, settingsBoundary_pending]
  · rw [hsettings, settingsBoundary_itemValue s h3 h4, htaken]
    exact itemValue_producedSet hcanonical.2 a
  · rw [hgeneration, if_pos (hactive.mpr h)]
  · rw [hgeneration, if_neg fun he => h (hactive.mp he a)]
  · intro v
    have hv : v = itemValue (producedSet s.settings) := funext fun a => (itemValue_producedSet hcanonical.2 a).symm
    clear_value v
    subst hv
    refine ⟨fun ch g => ?_, ?_⟩
    · intro item cleared restarted
      have hitem : item = pedestalAddress ch g := by cases g <;> rfl
      clear_value item
      subst hitem
      exact ⟨(congrArg Offer.accumulator (hoffer ch g)).trans (offer_applyTake_settled htake ch g),
        (congrArg Offer.pedestal (hoffer ch g)).trans (offer_applyTake_installed htake ch g)⟩
    · rw [hmonitor, settingsBoundary_flag hcanonical]
      refine or_congr_right (exists_congr fun ch => exists_congr fun g => ?_)
      simp only [offer_applyTake_refused htake, clearedByTake_eq_false_iff, and_assoc]
      cases g <;> rfl

end Sys2Proof.Machine
end

section
/-! The Pedestal Tracker at work: the accumulation of a crossing start, and the candidate its 64th code leads to (R173, R174). -/

namespace Sys2Proof.Machine

/-! ### Candidates (R174) -/

theorem exec_pedestalCandidate (ch : Channel) (g : Gain) (s : State) :
    exec (.pedestalCandidate ch g) s = .next (formCandidate ch g s) := rfl

theorem formCandidate_of_within {ch : Channel} {g : Gain} {s : State} {code : Code} (h : (accumulator s ch g).due = some code)
    (hw : |(candidateOf (accumulator s ch g) code : Int) - activePedestal s ch g| ≤ trackLimit s) :
    formCandidate ch g s = setAccumulator s ch g ⟨0, 0, some (candidateOf (accumulator s ch g) code), none⟩ := by
  simp only [formCandidate, h, if_pos ((withinTrackLimit_iff s ch g _).mpr hw)]

theorem formCandidate_of_beyond {ch : Channel} {g : Gain} {s : State} {code : Code} (h : (accumulator s ch g).due = some code)
    (hw : ¬ |(candidateOf (accumulator s ch g) code : Int) - activePedestal s ch g| ≤ trackLimit s) :
    formCandidate ch g s = report .pedestalJump (setAccumulator s ch g (accumulator s ch g).restarted) := by
  simp only [formCandidate, h, if_neg (mt (withinTrackLimit_iff s ch g _).mp hw)]
  rfl

/-- A candidate that is due changes the tracker and the monitor alone, and no other accumulator. -/
theorem formCandidate_of_due {ch : Channel} {g : Gain} {s : State} {code : Code} (h : (accumulator s ch g).due = some code) :
    formCandidate ch g s
        = { s with tracker := (formCandidate ch g s).tracker, monitor := (formCandidate ch g s).monitor } ∧
      ∀ k e, (k, e) ≠ (ch, g) → accumulator (formCandidate ch g s) k e = accumulator s k e := by
  have hother (a : Accumulator) (k : Channel) (e : Gain) (hne : (k, e) ≠ (ch, g)) :
      accumulator (setAccumulator s ch g a) k e = accumulator s k e := by
    rw [accumulator_setAccumulator, if_neg (mt Prod.mk_inj.mpr hne)]
  by_cases hw : |(candidateOf (accumulator s ch g) code : Int) - activePedestal s ch g| ≤ trackLimit s
  · rw [formCandidate_of_within h hw]
    exact ⟨rfl, hother _⟩
  · rw [formCandidate_of_beyond h hw]
    exact ⟨rfl, hother _⟩

/-- Settles O31, by whether a candidate is due and whether it lies within the Track limit. -/
theorem pedestalCandidateEffect : Obligations.PedestalCandidateEffect := by
  intro ch g s a
  refine ⟨fun hnone => by rw [exec_pedestalCandidate, formCandidate_of_not_due hnone], fun code hdue => ?_⟩
  intro candidate
  obtain ⟨hframe, hother⟩ := formCandidate_of_due hdue
  refine ⟨_, exec_pedestalCandidate ch g s, hframe, hother, fun hw => ?_, fun hw => ?_⟩
  · rw [formCandidate_of_within hdue hw, accumulator_setAccumulator, if_pos ⟨rfl, rfl⟩]
    exact ⟨rfl, rfl⟩
  · rw [formCandidate_of_beyond hdue (not_le.mpr hw)]
    exact ⟨(accumulator_setAccumulator ..).trans (if_pos ⟨rfl, rfl⟩), rfl⟩

/-! ### One code (R173) -/

/-- The raw code of one gain. -/
def pairCode (p : CodePair) (g : Gain) : Code :=
  match g with
  | .high => p.hg
  | .low => p.lg

/-- The converter of one gain is faulted. -/
def pairFaulted (p : CodePair) (g : Gain) : Bool :=
  match g with
  | .high => p.hgFault
  | .low => p.lgFault

theorem addCode_of_lt {a : Accumulator} (h : a.count + 1 < 64) (code : Code) :
    addCode code a = { a with sum := a.sum + code.toNat, count := a.count + 1 } := if_pos h

theorem addCode_of_ge {a : Accumulator} (h : 64 ≤ a.count + 1) (code : Code) : addCode code a = { a with due := some code } :=
  if_neg (not_lt.mpr h)

/-- The two gains are accumulated each for itself. -/
theorem get_accumulatePair (p : CodePair) (t : TrackerChannel) (g : Gain) :
    (accumulatePair p t).get g = if pairFaulted p g = true then t.get g else addCode (pairCode p g) (t.get g) := by
  cases g <;> rfl

/-! ### The four conditions (R173) -/

/-- A channel meets the four conditions of R173 at position `p`: Tracking On, a gap crossing, a source that is Normal or Quiet, no
fire of the last eight crossings. -/
abbrev TracksAt (s : State) (p : Position) (ch : Channel) : Prop :=
  trackingOn s ch = true ∧ (gapStart s ≤ p.number ∧ p.number ≤ gapEnd s) ∧
    ((s.inputs.channels.get ch).killed = false ∧ active s 1 ch.val ≠ 0 ∧ active s 1 ch.val ≠ 2) ∧
    ∀ i ∈ s.injection.fires, ¬ (i.index ≤ p.index ∧ p.index - i.index ≤ 7)

/-- A channel that is neither killed nor in mode Off or Test is Normal or Quiet (R2). -/
theorem effectiveSource_tracked_iff (s : State) (ch : Channel) :
    (effectiveSource s ch = some .normal ∨ effectiveSource s ch = some .quiet) ↔
      (s.inputs.channels.get ch).killed = false ∧ active s 1 ch.val ≠ 0 ∧ active s 1 ch.val ≠ 2 := by
  rw [effectiveSource_eq]
  by_cases hoff : (s.inputs.channels.get ch).killed = true ∨ active s 1 ch.val = 0
  · rw [if_pos hoff]
    rcases hoff with hkilled | hmode <;> simp [*]
  · rw [if_neg hoff]
    split_ifs <;> simp_all

theorem inInjectionShadow_eq_false_iff (s : State) (n : Nat) :
    inInjectionShadow s n = false ↔ ∀ i ∈ s.injection.fires, ¬ (i.index ≤ n ∧ n - i.index ≤ 7) := by
  simp [inInjectionShadow, Config.injectionShadow]

theorem isGapCrossing_iff {s : State} {p : Position} (hp : s.timer.position = some p) :
    isGapCrossing s = true ↔ gapStart s ≤ p.number ∧ p.number ≤ gapEnd s := by
  simp [isGapCrossing, crossingNumber, hp]

/-- The conditions as one conjunction of tests. -/
theorem accumulates_eq (s : State) (n : Nat) (ch : Channel) :
    accumulates s n ch
      = (trackingOn s ch && isGapCrossing s && !inInjectionShadow s n
          && decide (effectiveSource s ch = some .normal ∨ effectiveSource s ch = some .quiet)) := by
  unfold accumulates
  cases effectiveSource s ch with
  | none => rfl
  | some x => cases x <;> rfl

theorem accumulates_iff {s : State} {p : Position} (hp : s.timer.position = some p) (ch : Channel) :
    accumulates s p.index ch = true ↔ TracksAt s p ch := by
  rw [accumulates_eq, TracksAt, ← inInjectionShadow_eq_false_iff, ← isGapCrossing_iff hp, ← effectiveSource_tracked_iff]
  simp only [Bool.and_eq_true, Bool.not_eq_true', decide_eq_true_eq]
  tauto

/-- The conditions read the killed flag of the channel, the settings and the Injection List alone. -/
theorem tracksAt_congr {s t : State} {ch : Channel}
    (hk : (t.inputs.channels.get ch).killed = (s.inputs.channels.get ch).killed) (hs : t.settings = s.settings)
    (hi : t.injection = s.injection) (p : Position) : TracksAt t p ch ↔ TracksAt s p ch := by
  simp only [TracksAt, trackingOn, activeOn, gapStart, gapEnd, activeNat, active_congr hs, hk, hi]

/-! ### The accumulation of a crossing start (R173) -/

theorem accumulator_congr {s t : State} (h : t.tracker = s.tracker) (ch : Channel) (g : Gain) :
    accumulator t ch g = accumulator s ch g := by
  rw [accumulator, h, accumulator]

/-- Where a column is written, a gain that is not faulted adds its raw code if its channel meets the conditions. -/
theorem accumulator_accumulatePedestals {s : State} {p : Position} (hp : s.timer.position = some p)
    (hf : s.pipeline.frozen = false) (pairs : Oct CodePair) (ch : Channel) (g : Gain) :
    accumulator (accumulatePedestals pairs s) ch g
      = if pairFaulted (pairs.get ch) g = false ∧ accumulates s p.index ch = true then
          addCode (pairCode (pairs.get ch) g) (accumulator s ch g)
        else accumulator s ch g := by
  have htracker : (accumulatePedestals pairs s).tracker.get ch
      = if accumulates s p.index ch = true then accumulatePair (pairs.get ch) (s.tracker.get ch) else s.tracker.get ch := by
    simp [accumulatePedestals, hp, hf]
  rw [accumulator, htracker]
  cases accumulates s p.index ch with
  | false => simp [accumulator]
  | true => cases hfault : pairFaulted (pairs.get ch) g <;> simp [get_accumulatePair, accumulator, hfault]

/-- The state a crossing start accumulates on: the column written, the towers summed. -/
def summedCrossing (pairs : Oct CodePair) (s : State) : State := reportTowers (updateTowers (writtenCrossing pairs s))

/-- The accumulation of a crossing start is the last it does to the tracker. -/
theorem startCrossing_tracker (pairs : Oct CodePair) (s : State) :
    (startCrossing pairs s).tracker = (accumulatePedestals pairs (summedCrossing pairs s)).tracker := by
  simp [startCrossing_eq, sampledCrossing_eq, summedCrossing]

/-- What the accumulation of an entered, unfrozen crossing reads is as the crossing was entered with. -/
theorem summedCrossing_frame {s : State} {p : Position} {f : Forming} (he : EnteredAt s p f) (hf : s.pipeline.frozen = false)
    (pairs : Oct CodePair) :
    (summedCrossing pairs s).timer = s.timer ∧ (summedCrossing pairs s).settings = s.settings ∧
    (summedCrossing pairs s).injection = s.injection ∧ (summedCrossing pairs s).tracker = s.tracker ∧
    (summedCrossing pairs s).pipeline.frozen = false ∧
    ∀ ch, ((summedCrossing pairs s).inputs.channels.get ch).killed = (s.inputs.channels.get ch).killed := by
  obtain ⟨htimer, hsettings, -, hpipeline, -⟩ := writtenCrossing_frame he pairs
  obtain ⟨-, -, -, -, -, -, -, htracker, hinjection, -⟩ := deliveredCrossing_frame pairs s
  rw [enterCrossing_of_enteredAt he] at htracker hinjection
  have hchannels : (writtenCrossing pairs s).inputs.channels = Oct.ofFn (channelAfter s pairs) := by
    rw [writtenCrossing, ← (startCrossing_inputs_pipeline pairs s).1, (startCrossing_of_unfrozen he hf pairs).2.1]
  refine ⟨by simp [summedCrossing, htimer], by simp [summedCrossing, hsettings],
    by simp [summedCrossing, writtenCrossing, hinjection], by simp [summedCrossing, writtenCrossing, htracker],
    by simp [summedCrossing, hpipeline, startCrossing_unfrozen he hf], fun ch => ?_⟩
  simp [summedCrossing, hchannels, channelAfter]

/-- An unfrozen crossing start adds the raw code of each gain that is not faulted, where the channel meets the conditions. -/
theorem accumulator_startCrossing {s : State} {p : Position} {f : Forming} (he : EnteredAt s p f)
    (hf : s.pipeline.frozen = false) (pairs : Oct CodePair) (ch : Channel) (g : Gain) :
    accumulator (startCrossing pairs s) ch g
      = if pairFaulted (pairs.get ch) g = false ∧ TracksAt s p ch then
          addCode (pairCode (pairs.get ch) g) (accumulator s ch g)
        else accumulator s ch g := by
  obtain ⟨htimer, hsettings, hinjection, htracker, hfrozen, hkilled⟩ := summedCrossing_frame he hf pairs
  have hposition : (summedCrossing pairs s).timer.position = some p := by rw [htimer, he.1]
  rw [accumulator_congr (startCrossing_tracker pairs s), accumulator_accumulatePedestals hposition hfrozen]
  simp only [accumulates_iff hposition, tracksAt_congr (hkilled ch) hsettings hinjection, accumulator_congr htracker]

/-- Settles O17: a gain that adds takes its code by the room in its count, and every other keeps its accumulator. -/
theorem pedestalsAccumulate : Obligations.PedestalsAccumulate := by
  intro pairs s p f he hf
  refine ⟨_, exec_crossingStart pairs s, fun ch g => ?_⟩
  intro old code faulted adds
  have hafter : accumulator (startCrossing pairs s) ch g = if adds then addCode code old else old :=
    accumulator_startCrossing he hf pairs ch g
  refine ⟨fun hno => hafter.trans (if_neg hno), fun hadds hroom => ?_, fun hadds hfull => ?_⟩
  · rw [hafter, if_pos hadds, addCode_of_lt hroom]
  · rw [hafter, if_pos hadds, addCode_of_ge hfull]

end Sys2Proof.Machine
end

section
/-! The Injection Generator at work: fires, the ageing of the Injection List, amplitude scans (R177 to R180). -/

namespace Sys2Proof.Machine

/-! ### A fire (R177) -/

/-- The count of a fire by the scan state: while Running the fire that ends a point leaves the step due (R177; log 11). -/
theorem countFire_eq (s : State) :
    countFire s
      = match s.injection.scan with
        | .running a n due => if firesPerPoint s ≤ n + 1 then .running a n true else .running a (n + 1) due
        | .off => .off
        | .done a => .done a := by
  unfold countFire
  cases s.injection.scan <;> rfl

theorem fireTest_of_forming {s : State} {p : Position} {f : Forming} (hp : s.timer.position = some p)
    (hf : s.timer.forming = some f) :
    fireTest s
      = { s with
          timer := { s.timer with forming := some { f with injected := true } }
          injection :=
            { s.injection with
              scan := countFire s
              fires := appendFire s.injection.fires ⟨p.index, currentAmplitude s⟩
              charge := firedCharge s } } := by
  simp only [fireTest, currentIndex_of_position hp, State.setInjection_timer, hf, Option.map_some]
  rfl

/-- A Test Fire of an entered crossing is made there, with the frame marked (R40, R177). -/
theorem exec_testFire_of_entered {s : State} {p : Position} {f : Forming} (he : EnteredAt s p f) (hf : f.frameTaken = false) :
    exec .testFire s = .next
      { s with
        timer := { s.timer with forming := some { f with frameTaken := true, injected := true } }
        injection :=
          { s.injection with
            scan := countFire s
            fires := appendFire s.injection.fires ⟨p.index, currentAmplitude s⟩
            charge := firedCharge s } } := by
  have hfire := fireTest_of_forming
    (s := { s with timer := { s.timer with forming := some { f with frameTaken := true } } }) he.1 rfl
  exact congrArg Host.Outcome.next ((takeFrame_of_entered he hf fireTest).trans hfire)

/-! ### Ageing (R178) -/

theorem exec_injectionRecordAgeOut (s : State) :
    exec .injectionRecordAgeOut s = .next (if ageOutDue s then openCrossing s else s) := rfl

/-- The index of the next crossing start (R21). -/
theorem nextPosition_index (p : Option Position) :
    (nextPosition p).index = match p with
      | none => 0
      | some x => x.index + 1 := by
  cases p <;> rfl

/-- The ageing takes something where a record has reached age 256. -/
theorem agedFires_ne_iff (fires : List Fire) (n : Nat) :
    agedFires fires n ≠ fires ↔ ∃ f ∈ fires, f.index + 256 ≤ n := by
  simp [agedFires, List.filter_eq_self, Config.injectionLife]

theorem ageOutDue_iff (s : State) :
    ageOutDue s = true ↔ s.timer.forming = none ∧
      ∃ f ∈ s.injection.fires, f.index + 256 ≤ (nextPosition s.timer.position).index := by
  rw [ageOutDue, Bool.and_eq_true, decide_eq_true_eq, agedFires_ne_iff, isForming, Bool.not_eq_true',
    Option.isSome_eq_false_iff, Option.isNone_iff_eq_none]

/-- A crossing that is opened leaves the records of the 256 crossings up to its own (R178). -/
theorem openCrossing_fires {s : State} (h : s.timer.forming = none) :
    (openCrossing s).injection.fires = agedFires s.injection.fires (nextPosition s.timer.position).index := by
  rw [openCrossing_of_not_forming h]
  simp [settle, makeDue]

/-- Settles O24: a fire written out, and the ageing by whether a record reaches age 256. -/
theorem injectionListEffects : Obligations.InjectionListEffects := by
  refine ⟨fun s p f he hf => ?_, fun s => ?_⟩
  · rw [exec_testFire_of_entered he hf, countFire_eq]
    rfl
  · intro n
    have hn : (nextPosition s.timer.position).index = n := nextPosition_index _
    have hdue := ageOutDue_iff s
    rw [hn] at hdue
    refine ⟨fun hforming hold => ⟨openCrossing s, nextPosition s.timer.position, ?_, ?_, hn, ?_⟩, fun h => ?_⟩
    · rw [exec_injectionRecordAgeOut, if_pos (hdue.mpr ⟨hforming, hold⟩)]
    · rw [openCrossing_timer_of_not_forming (by simp [isForming, hforming])]
    · rw [openCrossing_fires hforming, hn]
      rfl
    · rw [exec_injectionRecordAgeOut, if_neg]
      rw [hdue]
      rintro ⟨hforming, x, hx, hold⟩
      exact h.elim (absurd hforming) fun hyoung => absurd (hyoung x hx) (not_lt.mpr hold)

/-! ### The step of a scan (R180) -/

theorem exec_scanStep (s : State) : exec .scanStep s = .next (stepScan s) := rfl

/-- The scan and the direction after a step from an amplitude: the whole step where the limits allow it, otherwise the End
policy's (R180). -/
def scanStepped (s : State) (d : Direction) (a : Int) : Scan × Direction :=
  match nextAmplitude s d a with
  | some b => (.running b.toNat 0 false, d)
  | none => stepAtLimit s d a

/-- A step that is due changes the scan and its direction alone. -/
theorem stepScan_of_due {s : State} {a n : Nat} (h : s.injection.scan = .running a n true) :
    stepScan s
      = { s with
          injection :=
            { s.injection with
              scan := (scanStepped s s.injection.direction a).1
              direction := (scanStepped s s.injection.direction a).2 } } := by
  unfold stepScan
  rw [h]
  rfl

section Stepped

variable {s : State} {a : Int}

theorem scanStepped_up (h : a + scanStepSize s ≤ scanHigh s) :
    scanStepped s .up a = (.running (max (a + scanStepSize s) (scanLow s)).toNat 0 false, .up) := by
  simp only [scanStepped, nextAmplitude, if_pos h]

theorem scanStepped_down (h : scanLow s ≤ a - scanStepSize s) :
    scanStepped s .down a = (.running (min (a - scanStepSize s) (scanHigh s)).toNat 0 false, .down) := by
  simp only [scanStepped, nextAmplitude, if_pos h]

theorem scanStepped_up_limit (h : scanHigh s < a + scanStepSize s) : scanStepped s .up a = stepAtLimit s .up a := by
  simp only [scanStepped, nextAmplitude, if_neg (not_le.mpr h)]

theorem scanStepped_down_limit (h : a - scanStepSize s < scanLow s) : scanStepped s .down a = stepAtLimit s .down a := by
  simp only [scanStepped, nextAmplitude, if_neg (not_le.mpr h)]

/-- Wrap begins again at the limit the direction starts from. -/
theorem stepAtLimit_of_wrap (d : Direction) (h : endPolicy s = 1) :
    stepAtLimit s d a = (.running (firstAmplitude s d) 0 false, d) := by
  unfold stepAtLimit
  rw [if_pos h]
  cases d <;> rfl

/-- Reverse takes one step back from the amplitude and turns. -/
theorem stepAtLimit_of_reverse (d : Direction) (h : endPolicy s = 2) :
    stepAtLimit s d a
      = (.running
          (clampTo (scanLow s) (scanHigh s) (if d = .up then a - scanStepSize s else a + scanStepSize s)).toNat 0 false,
          d.turned) := by
  unfold stepAtLimit
  rw [if_neg (by omega), if_pos h]
  cases d <;> rfl

/-- Stop ends the scan at the amplitude, brought within the limits. -/
theorem stepAtLimit_of_stop (d : Direction) (hwrap : endPolicy s ≠ 1) (hreverse : endPolicy s ≠ 2) :
    stepAtLimit s d a = (.done (clampTo (scanLow s) (scanHigh s) a).toNat, d) := by
  unfold stepAtLimit
  rw [if_neg hwrap, if_neg hreverse, withinScan]

end Stepped

/-! ### ScanStart and ScanStop (R179) -/

theorem exec_scanStart (s : State) : exec .scanStart s = .next (controlRequest 14 (actDone startScan) s) := rfl

theorem exec_scanStop (s : State) : exec .scanStop s = .next (controlRequest 15 (actDone stopScan) s) := rfl

/-- A scan starts Up from Scan low, Down from Scan high (R179). -/
theorem firstAmplitude_scanDirectionItem (s : State) :
    firstAmplitude s (scanDirectionItem s) = if active s 70 0 = 1 then (scanHigh s).toNat else (scanLow s).toNat := by
  unfold scanDirectionItem
  split <;> rfl

theorem exec_scanStart_of_ready {s : State} (h : ControlReady s) :
    exec .scanStart s = .next
      { s with
        injection :=
          { s.injection with
            direction := scanDirectionItem s
            scan := .running (firstAmplitude s (scanDirectionItem s)) 0 false }
        control := controlAnswering s ((Reply.done []).words 14) } := by
  rw [exec_scanStart, controlRequest_of_ready h]
  rfl

theorem exec_scanStop_of_ready {s : State} (h : ControlReady s) :
    exec .scanStop s = .next
      { s with
        injection := { s.injection with scan := .off }
        control := controlAnswering s ((Reply.done []).words 15) } := by
  rw [exec_scanStop, controlRequest_of_ready h]
  rfl

/-- Settles O32: SCAN_STEP by whether a step is due, by the direction, by whether the step passes the limit and by the End policy;
the two requests as they are answered. -/
theorem scanEffects : Obligations.ScanEffects := by
  refine ⟨fun s hno => ?_, fun s a n hscan => ?_, fun s h => ⟨?_, exec_scanStop_of_ready h⟩⟩
  · have hdue : s.injection.scan.stepIsDue = false := by
      cases hscan : s.injection.scan with
      | off => rfl
      | done a => rfl
      | running a n due =>
        cases due with
        | false => rfl
        | true => exact absurd hscan (hno a n)
    rw [exec_scanStep, stepScan_of_not_due hdue]
  · intro low high size stepped
    have hexec {d e : Direction} {x : Scan} (hd : s.injection.direction = d) (h : scanStepped s d a = (x, e)) :
        exec .scanStep s = .next (stepped x e) := by
      rw [exec_scanStep, stepScan_of_due hscan, hd, h]
    refine ⟨fun hd hle => hexec hd (scanStepped_up hle), fun hd hle => hexec hd (scanStepped_down hle), fun hd hlt => ?_,
      fun hd hlt => ?_⟩
    · have hlimit := scanStepped_up_limit hlt
      exact ⟨fun hwrap => hexec hd (hlimit.trans (stepAtLimit_of_wrap .up hwrap)),
        fun hreverse => hexec hd (hlimit.trans (stepAtLimit_of_reverse .up hreverse)),
        fun hwrap hreverse => hexec hd (hlimit.trans (stepAtLimit_of_stop .up hwrap hreverse))⟩
    · have hlimit := scanStepped_down_limit hlt
      exact ⟨fun hwrap => hexec hd (hlimit.trans (stepAtLimit_of_wrap .down hwrap)),
        fun hreverse => hexec hd (hlimit.trans (stepAtLimit_of_reverse .down hreverse)),
        fun hwrap hreverse => hexec hd (hlimit.trans (stepAtLimit_of_stop .down hwrap hreverse))⟩
  · rw [exec_scanStart_of_ready h, firstAmplitude_scanDirectionItem]
    rfl

end Sys2Proof.Machine
end

section
/-! The Fault Monitor at its requests: the control view, and the clearing of flags and counts (R183, R184). -/

namespace Sys2Proof.Machine

/-! ### The words of the control view (R183) -/

theorem numberWord_runStateCode (r : RunState) :
    numberWord r.code
      = match r with
        | .idle => 0
        | .starting => 1
        | .run => 2
        | .lost => 3
        | .resyncing => 4
        | .stopping => 5 := by
  cases r <;> rfl

theorem numberWord_descriptorStateCode (x : DescriptorState) :
    numberWord x.code
      = match x with
        | .building => 0
        | .ready => 1
        | .sent => 2 := by
  cases x <;> rfl

theorem numberWord_scanCode (x : Scan) :
    numberWord x.code
      = match x with
        | .off => 0
        | .running _ _ _ => 1
        | .done _ => 2 := by
  cases x <;> rfl

theorem controlView_length (s : State) : (controlView s).length = 35 := rfl

theorem exec_readFaults {s : State} (h : ControlReady s) :
    exec .readFaults s
      = .next { s with control := controlAnswering s (controlHeader 10 0 0 0 35 0 :: controlView s) } := by
  rw [← controlView_length s]
  exact congrArg Host.Outcome.next (controlRequest_answer_of_ready h 10 _)

/-- Settles O54: the request answers with the control view, whose words are the 35 of R183. -/
theorem readFaultsAnswers : Obligations.ReadFaultsAnswers := by
  intro s h absent bit oldest
  refine ⟨_, exec_readFaults h, rfl, ?_⟩
  have holdest : oldestDescriptor s = oldest := rfl
  simp only [controlAnswering, controlView, flagWord_eq, numberWord_runStateCode, numberWord_descriptorStateCode,
    numberWord_scanCode, holdest]
  clear_value oldest
  cases s.timer.position <;> cases oldest <;> rfl

/-! ### CLEAR_CAUSES, SET_ENABLES, CLEAR_COUNTS (R184) -/

section Requests

variable {s : State} (h : ControlReady s)
include h

/-- A request with an effect is answered Done, from the port as the effect leaves it. -/
theorem controlRequest_actDone_of_ready (code : Nat) (effect : State → State) :
    controlRequest code (actDone effect) s
      = (effect s).setControl (controlAnswering (effect s) ((Reply.done []).words code)) :=
  controlRequest_of_ready h code _

theorem exec_clearCauses (causeBits : BitVec 16) :
    exec (.clearCauses causeBits) s = .next
      { s with
        monitor := { s.monitor with flags := s.monitor.flags &&& ~~~causeSet causeBits }
        control := controlAnswering s ((Reply.done []).words 11) } :=
  congrArg Host.Outcome.next (controlRequest_actDone_of_ready h 11 _)

theorem exec_setEnables (causeBits : BitVec 16) :
    exec (.setEnables causeBits) s = .next
      { s with
        monitor := { s.monitor with enables := causeSet causeBits }
        control := controlAnswering s ((Reply.done []).words 12) } :=
  congrArg Host.Outcome.next (controlRequest_actDone_of_ready h 12 _)

theorem exec_clearCounts :
    exec .clearCounts s = .next
      { s with
        monitor := { s.monitor with counts := CauseCounts.zero }
        control := controlAnswering s ((Reply.done []).words 13) } :=
  congrArg Host.Outcome.next (controlRequest_actDone_of_ready h 13 _)

end Requests

/-- A cause set names cause `k` by its bit `k` (R151). -/
theorem getLsbD_causeSet (causeBits : BitVec 16) {k : Nat} (hk : k < 10) :
    (causeSet causeBits).getLsbD k = causeBits.getLsbD k := by
  simp [causeSet, hk]

/-- A flag stays set after a clear where the set does not name its cause (R184). -/
theorem getLsbD_and_not_causeSet (flags : BitVec 10) (causeBits : BitVec 16) {k : Nat} (hk : k < 10) :
    (flags &&& ~~~causeSet causeBits).getLsbD k = (flags.getLsbD k && !causeBits.getLsbD k) := by
  rw [BitVec.getLsbD_and, BitVec.getLsbD_not, decide_eq_true hk, Bool.true_and, getLsbD_causeSet causeBits hk]

/-- Settles O55: each request changes its own part of the Fault Monitor, the flags and the enables bit by bit. -/
theorem faultRequestEffects : Obligations.FaultRequestEffects := fun causeBits s h =>
  ⟨⟨_, exec_clearCauses h causeBits, rfl, rfl, fun _ => getLsbD_and_not_causeSet s.monitor.flags causeBits⟩,
    ⟨_, exec_setEnables h causeBits, rfl, rfl, fun _ => getLsbD_causeSet causeBits⟩,
    ⟨_, exec_clearCounts h, rfl, rfl⟩⟩

end Sys2Proof.Machine
end

section
/-! WriteCell: one record of a frozen column, or a refusal (R152, R188). -/

namespace Sys2Proof.Machine

/-! ### The record a cell word names (R152) -/

/-- The source with code `n`; 3 is no source (R151). -/
def sourceOfCode (n : Nat) : Option Source :=
  match n with
  | 0 => some .normal
  | 1 => some .test
  | 2 => some .quiet
  | _ => none

/-- The record with the fields of a cell word, one row of R152 for each state code. -/
def recordOfFields (state : Nat) (source : Option Source) (code : Code) (low : Bool) : Option Cell :=
  if state = 0 ∧ source ≠ none then some ⟨.good, code, if low then .low else .high, source⟩
  else if state = 1 ∧ source ≠ none ∧ code = 4095 ∧ low = true then some ⟨.saturated, 4095, .low, source⟩
  else if state = 2 ∧ source ≠ none ∧ low = true then some ⟨.fault, code, .low, source⟩
  else if state = 3 then some ⟨.off, 0, .high, none⟩
  else if state = 4 then some ⟨.empty, 0, .high, none⟩
  else none

section Fields

variable (source : Option Source) (code : Code) (low : Bool)

theorem recordOfFields_good :
    recordOfFields 0 source code low
      = if source.isSome then some ⟨.good, code, if low then .low else .high, source⟩ else none := by
  cases source <;> simp [recordOfFields]

/-- A saturated record has code 4095 and gain Low (R9, R152). -/
theorem recordOfFields_saturated :
    recordOfFields 1 source code low
      = if source.isSome ∧ code = 4095#12 ∧ (if low then Gain.low else .high) = .low then
          some ⟨.saturated, code, if low then .low else .high, source⟩
        else none := by
  by_cases hcode : code = 4095#12
  · subst hcode
    cases low <;> cases source <;> simp [recordOfFields]
  · simp [recordOfFields, hcode]

/-- A fault record has gain Low (R9, R152). -/
theorem recordOfFields_fault :
    recordOfFields 2 source code low
      = if source.isSome ∧ (if low then Gain.low else .high) = .low then
          some ⟨.fault, code, if low then .low else .high, source⟩
        else none := by
  cases low <;> cases source <;> simp [recordOfFields]

theorem recordOfFields_of_unassigned {state : Nat} (h : 4 < state) : recordOfFields state source code low = none := by
  unfold recordOfFields
  repeat rw [if_neg (by omega)]

end Fields

/-- A cell word is read by its fields: state in bits 18 to 16, source in 15 to 14, code in 31 to 20, gain in 19 (R151, R152). -/
theorem decodeCellWord_eq (w : Word) :
    decodeCellWord w
      = recordOfFields (w.extractLsb' 16 3).toNat (sourceOfCode (w.extractLsb' 14 2).toNat) (w.extractLsb' 20 12)
          (w.getLsbD 19) := by
  unfold decodeCellWord
  generalize (w.extractLsb' 16 3).toNat = state
  match state with
  | 0 => exact (recordOfFields_good _ _ _).symm
  | 1 => exact (recordOfFields_saturated _ _ _).symm
  | 2 => exact (recordOfFields_fault _ _ _).symm
  | 3 | 4 => rfl
  | n + 5 => exact (recordOfFields_of_unassigned _ _ _ (by omega)).symm

/-! ### The slot (R18, R188) -/

/-- The write is to the slot of crossing `h - a`, or of crossing `0 - a` without a write head (R188). -/
theorem writeCellSlot_eq (s : State) (a : Nat) :
    writeCellSlot s a = (((match s.pipeline.head with | some h => (h : Int) | none => 0) - (a : Int)) % 256).toNat := by
  unfold writeCellSlot
  cases s.pipeline.head <;> rfl

/-- The slot written holds its column with the one record replaced (R188). -/
theorem storedColumn_writeCell {s : State} (hwf : ColumnsCanonical s.pipeline.columns) (a : Nat) (ch : Channel) (x : Cell) :
    storedColumn (writeCell a ch x s).pipeline (writeCellSlot s a)
      = (storedColumn s.pipeline (writeCellSlot s a)).withCell ch x :=
  (Memory.read_write _ _ hwf.1 _).trans (if_pos rfl)

/-- Every other slot stays as it was (R188). -/
theorem storedColumn_writeCell_of_ne (s : State) {a k : Nat} (hk : k ≠ writeCellSlot s a) (ch : Channel) (x : Cell) :
    storedColumn (writeCell a ch x s).pipeline k = storedColumn s.pipeline k :=
  Memory.read_write_of_ne _ _ _ hk

/-! ### The answer and the effect (R188) -/

theorem exec_writeCell (age : BitVec 11) (channel : BitVec 16) (cell : Word) (s : State) :
    exec (.writeCell age channel cell) s = .next (controlRequest 20 (writeCellEffect age channel cell) s) := rfl

section Rows

variable {age : BitVec 11} {channel : BitVec 16} {cell : Word} {s : State}

theorem writeCellEffect_of_not_frozen (hf : s.pipeline.frozen = false) :
    writeCellEffect age channel cell s = (s, .refused .notFrozen) := if_pos hf

theorem writeCellEffect_of_range (hf : s.pipeline.frozen = true)
    (hrange : 256 ≤ age.toNat ∨ 8 ≤ channel.toNat ∨ decodeCellWord cell = none) :
    writeCellEffect age channel cell s = (s, .refused .range) := by
  unfold writeCellEffect
  rw [if_neg (by simp [hf])]
  split
  · next hage hchannel hcell =>
    rcases hrange with h | h | h
    · rw [ageArgument_of_ge h] at hage
      cases hage
    · rw [channelArgument_of_ge h] at hchannel
      cases hchannel
    · rw [h] at hcell
      cases hcell
  · rfl

theorem writeCellEffect_of_record {ch : Channel} {x : Cell} (hf : s.pipeline.frozen = true) (hage : age.toNat < 256)
    (hchannel : channel.toNat = ch.val) (hcell : decodeCellWord cell = some x) :
    writeCellEffect age channel cell s = (writeCell age.toNat ch x s, .done []) := by
  unfold writeCellEffect
  rw [if_neg (by simp [hf]), ageArgument_of_lt hage, channelArgument_of_eq hchannel, hcell]

/-- A WriteCell that is refused changes the control port alone. -/
theorem exec_writeCell_of_refused (h : ControlReady s) {k : RefusalCode}
    (hk : writeCellEffect age channel cell s = (s, .refused k)) :
    exec (.writeCell age channel cell) s
      = .next { s with control := controlAnswering s ((Reply.refused k).words 20) } := by
  rw [exec_writeCell, controlRequest_of_ready h, hk]
  rfl

/-- A WriteCell that is done changes the columns of the pipeline besides. -/
theorem exec_writeCell_of_done (h : ControlReady s) {a : Nat} {ch : Channel} {x : Cell}
    (hd : writeCellEffect age channel cell s = (writeCell a ch x s, .done [])) :
    exec (.writeCell age channel cell) s = .next
      { s with
        pipeline := (writeCell a ch x s).pipeline
        control := controlAnswering s ((Reply.done []).words 20) } := by
  rw [exec_writeCell, controlRequest_of_ready h, hd]
  rfl

end Rows

/-- Settles O58, row by row of R188; the slots are read back through the canonical store. -/
theorem writeCellAnswers : Obligations.WriteCellAnswers := by
  intro age channel cell s h refused code low state source record
  have hrecord : decodeCellWord cell = record := decodeCellWord_eq cell
  have hrefused {k : RefusalCode} {number : BitVec 5} (hk : writeCellEffect age channel cell s = (s, .refused k))
      (hnumber : BitVec.ofNat 5 k.number = number) : refused number := by
    subst hnumber
    exact ⟨_, exec_writeCell_of_refused h hk, rfl, rfl⟩
  refine ⟨fun hf => hrefused (writeCellEffect_of_not_frozen hf) rfl,
    fun hf hrange => hrefused (writeCellEffect_of_range hf (hrecord ▸ hrange)) rfl,
    fun hf hage hcanonical ch x hchannel hx => ?_⟩
  intro slot old
  have hslot : writeCellSlot s age.toNat = slot.toNat := writeCellSlot_eq s age.toNat
  have hcolumns := ((storesCanonical_iff s).mp hcanonical).1
  refine ⟨_, exec_writeCell_of_done h (writeCellEffect_of_record hf hage hchannel (hrecord.trans hx)), rfl, rfl, ?_,
    fun k hk => storedColumn_writeCell_of_ne s (hslot ▸ hk) ch x⟩
  have hwritten := storedColumn_writeCell hcolumns age.toNat ch x
  rw [hslot] at hwritten
  exact hwritten

end Sys2Proof.Machine
end
